-- ==== Sys2Proof/Word.lean ====
section
/-! DEFINITION. The word types of the device: bytes, 64-bit host words and 128-bit blocks. -/

namespace Sys2Proof

/-- One byte: a block byte, a channel byte, a byte of the line buffer (R60). -/
abbrev Byte := BitVec 8

/-- One host register value, `W_IN` = 64 bits, unsigned (R10, R21, R61). -/
abbrev Word := BitVec 64

/-- The sixteen bytes of a block as one 128-bit vector, byte 0 most significant (R70, R91). -/
abbrev Block := BitVec 128

/-- One host transaction `HOSTXN`: `h_write ‖ h_addr ‖ h_wdata`, 70 bits (R112). -/
abbrev HostXn := BitVec 70

end Sys2Proof
end

