-- ==== Sys2Proof/Config.lean ====
section
/-! DEFINITION. The parameters of R10: the named constants, and the two that the spec leaves open as configuration. -/

namespace Sys2Proof

/-- The two readings of `SID_LO_SHIFT`, the left shift of `station_id` into byte 5 (R10, R114, D6). -/
inductive SidShift where
  /-- `station_id[2:0]` at byte 5 bits 7..5, bit 4 unused: the value this hardware takes. -/
  | five
  /-- `station_id[2:0]` at byte 5 bits 6..4, bit 7 unused: the reading the source does not exclude. -/
  | four
deriving DecidableEq, Repr

/-- The configuration: the parameters that R10 and 92_eei_decisions.md call open (D6, D12). A machine keeps the one
it was made with; no step writes it. -/
structure Config where
  /-- `SID_LO_SHIFT` (R10, R136, D6). -/
  sidShift : SidShift
  /-- `WS`, the set of bytes that trimming removes (R105, D12). -/
  ws : List Byte
deriving DecidableEq, Repr

/-- The configuration this hardware takes: `SID_LO_SHIFT` = 5 and the six bytes of R105 (R10). -/
def Config.device : Config :=
  { sidShift := .five, ws := [0x09, 0x0A, 0x0B, 0x0C, 0x0D, 0x20] }

/-- `ABORT`, the verdict byte after an echo mismatch (R100). -/
def Config.abort : Byte := 0x00

/-- `PROCEED`, the verdict byte after an echo match (R101). -/
def Config.proceed : Byte := 0x40

/-- `NL`, the line terminator (R104). -/
def Config.nl : Byte := 0x0A

/-- `LIT_READY`, the bytes of `WRITER READY` (R102). -/
def Config.litReady : List Byte :=
  [0x57, 0x52, 0x49, 0x54, 0x45, 0x52, 0x20, 0x52, 0x45, 0x41, 0x44, 0x59]

/-- `LIT_DONE`, the bytes of `WRITE DONE` (R103). -/
def Config.litDone : List Byte :=
  [0x57, 0x52, 0x49, 0x54, 0x45, 0x20, 0x44, 0x4F, 0x4E, 0x45]

/-- `BLOCK_BYTES` (R10). -/
def Config.blockBytes : Nat := 16

/-- `DETAIL_MAX`, the size of the line buffer (R10, R33). -/
def Config.detailMax : Nat := 64

/-- What 92_eei_decisions.md's list of open parameters asks of `WS`: it contains `NL`, and, so that the literals can
be matched, not their first or last bytes. -/
abbrev Config.Ok (c : Config) : Prop :=
  Config.nl ∈ c.ws ∧ (0x57 : Byte) ∉ c.ws ∧ (0x59 : Byte) ∉ c.ws ∧ (0x45 : Byte) ∉ c.ws

end Sys2Proof
end

