-- ==== Sys2Proof/Syntax.lean ====
section
/-! DEFINITION. The operations of the device: one constructor of `Instr` per row of spec/opcode_table.json, and the
forms in which operations reach the device (events, control point). An "instruction" of this hardware is an operation
(R6): a host register access, a command, the ENCODE function and its parts, or one controller transition. -/

namespace Sys2Proof

/-- The nine fields of the ConfigurationRecord, in the order of R22: field `i` is register `F[i]`. -/
inductive Field where
  | blockId | asdoEnabled | approachDirection | version | applicationCode
  | doorEnable | stopZoneLength | stationId | platformId
deriving DecidableEq, Repr

/-- The protocol states (R25). Code 7 of R26 is never produced and has no constructor (U11). -/
inductive HsState where
  | idle | awaitingReady | sending | verifyingEcho | awaitingDone | success | failed
deriving DecidableEq, Repr

/-- The failure reasons (R27, R250). -/
inductive Reason where
  | none | writerNotDetected | echoMismatch | writeFailed
deriving DecidableEq, Repr

/-- The column "format" of spec/opcode_table.json. -/
inductive Format where
  | block | blockByte | piece | flags | signal | line | hostXn | transition | register
deriving DecidableEq, Repr

/-- The operations, one constructor per row of spec/opcode_table.json, in its order. -/
inductive Instr where
  /-- ENCODE: evaluate the live block (R130, R163). -/
  | encode
  /-- BYTE0: evaluate block byte 0 (R131). -/
  | byte0
  /-- BYTE1: evaluate block byte 1 (R132). -/
  | byte1
  /-- BYTE2: evaluate block byte 2 (R133). -/
  | byte2
  /-- BYTE3: evaluate block byte 3 (R134). -/
  | byte3
  /-- BYTE4: evaluate block byte 4 (R135). -/
  | byte4
  /-- BYTE5: evaluate block byte 5 (R136). -/
  | byte5
  /-- BYTE6_15: evaluate the reserved bytes 6 to 15 (R137). -/
  | byte6to15
  /-- P1: evaluate piece 1 of the packing table (R138). -/
  | p1
  /-- P2: evaluate piece 2 of the packing table (R139). -/
  | p2
  /-- P3: evaluate piece 3 of the packing table (R140). -/
  | p3
  /-- P4: evaluate piece 4 of the packing table (R141). -/
  | p4
  /-- P5: evaluate piece 5 of the packing table (R142). -/
  | p5
  /-- P6: evaluate piece 6 of the packing table (R143). -/
  | p6
  /-- P7: evaluate piece 7 of the packing table (R144). -/
  | p7
  /-- P8: evaluate piece 8 of the packing table (R145). -/
  | p8
  /-- P9: evaluate piece 9 of the packing table (R146). -/
  | p9
  /-- P10: evaluate piece 10 of the packing table (R147). -/
  | p10
  /-- P11: evaluate piece 11 of the packing table (R148). -/
  | p11
  /-- P12: evaluate piece 12 of the packing table (R149). -/
  | p12
  /-- P13: evaluate piece 13 of the packing table (R150). -/
  | p13
  /-- OOR_FLAGS: evaluate the advisory flags (R159). -/
  | oorFlags
  /-- DECODE: the inverse of ENCODE on the sixteen bytes `x` (R160). -/
  | decode (x : Block)
  /-- ABORT: the channel accepts the abort byte (R100, R224). -/
  | abort
  /-- PROCEED: the channel accepts the proceed byte (R101, R223). -/
  | proceed
  /-- LIT_READY: the line `WRITER READY` arrives (R102, R215). -/
  | litReady
  /-- LIT_DONE: the line `WRITE DONE` arrives (R103, R226). -/
  | litDone
  /-- NL: the line terminator arrives (R104). -/
  | nl
  /-- WS: the byte `b` of the whitespace set arrives (R105). -/
  | ws (b : Byte)
  /-- WR F_BLOCK_ID: host write of register 0 (R173). -/
  | wrFBlockId (v : Word)
  /-- RD F_BLOCK_ID: host read of register 0 (R173). -/
  | rdFBlockId
  /-- WR F_ASDO_ENABLED: host write of register 1 (R174). -/
  | wrFAsdoEnabled (v : Word)
  /-- RD F_ASDO_ENABLED: host read of register 1 (R174). -/
  | rdFAsdoEnabled
  /-- WR F_APPROACH_DIRECTION: host write of register 2 (R175). -/
  | wrFApproachDirection (v : Word)
  /-- RD F_APPROACH_DIRECTION: host read of register 2 (R175). -/
  | rdFApproachDirection
  /-- WR F_VERSION: host write of register 3 (R176). -/
  | wrFVersion (v : Word)
  /-- RD F_VERSION: host read of register 3 (R176). -/
  | rdFVersion
  /-- WR F_APPLICATION_CODE: host write of register 4 (R177). -/
  | wrFApplicationCode (v : Word)
  /-- RD F_APPLICATION_CODE: host read of register 4 (R177). -/
  | rdFApplicationCode
  /-- WR F_DOOR_ENABLE: host write of register 5 (R178). -/
  | wrFDoorEnable (v : Word)
  /-- RD F_DOOR_ENABLE: host read of register 5 (R178). -/
  | rdFDoorEnable
  /-- WR F_STOP_ZONE_LENGTH: host write of register 6 (R179). -/
  | wrFStopZoneLength (v : Word)
  /-- RD F_STOP_ZONE_LENGTH: host read of register 6 (R179). -/
  | rdFStopZoneLength
  /-- WR F_STATION_ID: host write of register 7 (R180). -/
  | wrFStationId (v : Word)
  /-- RD F_STATION_ID: host read of register 7 (R180). -/
  | rdFStationId
  /-- WR F_PLATFORM_ID: host write of register 8 (R181). -/
  | wrFPlatformId (v : Word)
  /-- RD F_PLATFORM_ID: host read of register 8 (R181). -/
  | rdFPlatformId
  /-- RD ENC_HI: host read (R182). -/
  | rdEncHi
  /-- WR ENC_HI: host write of a read-only register (R182, R172). -/
  | wrEncHi (v : Word)
  /-- RD ENC_LO: host read (R183). -/
  | rdEncLo
  /-- WR ENC_LO: host write of a read-only register (R183, R172). -/
  | wrEncLo (v : Word)
  /-- RD STATUS: host read (R186). -/
  | rdStatus
  /-- WR STATUS: host write of a read-only register (R186, R172). -/
  | wrStatus (v : Word)
  /-- RD SENT_HI: host read (R187). -/
  | rdSentHi
  /-- WR SENT_HI: host write of a read-only register (R187, R172). -/
  | wrSentHi (v : Word)
  /-- RD SENT_LO: host read (R188). -/
  | rdSentLo
  /-- WR SENT_LO: host write of a read-only register (R188, R172). -/
  | wrSentLo (v : Word)
  /-- RD DETAIL0: host read (R189). -/
  | rdDetail0
  /-- WR DETAIL0: host write of a read-only register (R189, R172). -/
  | wrDetail0 (v : Word)
  /-- RD DETAIL1: host read (R189). -/
  | rdDetail1
  /-- WR DETAIL1: host write of a read-only register (R189, R172). -/
  | wrDetail1 (v : Word)
  /-- RD DETAIL2: host read (R189). -/
  | rdDetail2
  /-- WR DETAIL2: host write of a read-only register (R189, R172). -/
  | wrDetail2 (v : Word)
  /-- RD DETAIL3: host read (R189). -/
  | rdDetail3
  /-- WR DETAIL3: host write of a read-only register (R189, R172). -/
  | wrDetail3 (v : Word)
  /-- RD DETAIL4: host read (R189). -/
  | rdDetail4
  /-- WR DETAIL4: host write of a read-only register (R189, R172). -/
  | wrDetail4 (v : Word)
  /-- RD DETAIL5: host read (R189). -/
  | rdDetail5
  /-- WR DETAIL5: host write of a read-only register (R189, R172). -/
  | wrDetail5 (v : Word)
  /-- RD DETAIL6: host read (R189). -/
  | rdDetail6
  /-- WR DETAIL6: host write of a read-only register (R189, R172). -/
  | wrDetail6 (v : Word)
  /-- RD DETAIL7: host read (R189). -/
  | rdDetail7
  /-- WR DETAIL7: host write of a read-only register (R189, R172). -/
  | wrDetail7 (v : Word)
  /-- RD CTRL: host read of the write-only register (R185). -/
  | rdCtrl
  /-- START: host write of CTRL with bit 0 set (R184, R191). -/
  | start (v : Word)
  /-- CLEAR: host write of CTRL with bits 1:0 = 10b (R184, R192). -/
  | clear (v : Word)
  /-- WR CTRL with bits 1:0 = 00b: nothing (R184). -/
  | wrCtrlNoCommand (v : Word)
  /-- Access to the unmapped register 9 (R190). -/
  | unmapped9 (write : Bool) (v : Word)
  /-- Access to the unmapped registers 24 to 31, number `24 + low` (R190). -/
  | unmapped24to31 (write : Bool) (low : BitVec 3) (v : Word)
  /-- AwaitingReady, RxByte(b), b ≠ NL (R214). -/
  | arByte (b : Byte)
  /-- AwaitingReady, RxByte(NL), the line is LIT_READY (R215). -/
  | arNlMatch
  /-- AwaitingReady, RxByte(NL), the line is anything else (R216). -/
  | arNlOther
  /-- AwaitingReady, RxEnd (R217). -/
  | arEnd
  /-- Sending, idx < 15, TxAccept (R218). -/
  | sendByte
  /-- Sending, idx = 15, TxAccept (R219). -/
  | sendLast
  /-- VerifyingEcho, txp = 0, idx < 15, RxByte(b) (R220). -/
  | echoByte (b : Byte)
  /-- VerifyingEcho, txp = 0, idx = 15, RxByte(b) (R221). -/
  | echoLast (b : Byte)
  /-- VerifyingEcho, txp = 0, RxEnd (R222). -/
  | echoEnd
  /-- VerifyingEcho, txp = 1, mism = 0, TxAccept (R223). -/
  | verdictProceed
  /-- VerifyingEcho, txp = 1, mism = 1, TxAccept (R224). -/
  | verdictAbort
  /-- AwaitingDone, RxByte(b), b ≠ NL (R225). -/
  | adByte (b : Byte)
  /-- AwaitingDone, RxByte(NL), the line is LIT_DONE (R226). -/
  | adNlMatch
  /-- AwaitingDone, RxByte(NL), the line is anything else (R227). -/
  | adNlOther
  /-- AwaitingDone, RxEnd (R228). -/
  | adEnd
  /-- LINEBYTE, the line reader's byte step, by itself (R210). -/
  | lineByte (b : Byte)
  /-- LINE_RESET, the line reader's reset, by itself (R209). -/
  | lineReset
  /-- FAIL, the entry into Failed with reason `r`, by itself (R256). -/
  | fail (r : Reason)
  /-- RESET (R280). -/
  | reset
  /-- The CTRL format: any host write of register 12 (R107, R184). -/
  | ctrl (v : Word)
  /-- The STATUS format: evaluate the status word (R108). -/
  | status
deriving DecidableEq, Repr

/-- What reaches the device in one step (R8), after the fetch has taken it from the pending inputs: the step labels,
and the two forms of the model's own (log entries 7 and 8). -/
inductive Event where
  /-- `HostWrite` or `HostRead` as the 70-bit transaction (R8, R112). -/
  | hostXn (xn : HostXn)
  /-- `RxByte(b)` (R8, R202). -/
  | rxByte (b : Byte)
  /-- `RxEnd` (R8, R202). -/
  | rxEnd
  /-- `TxAccept` (R8, R202). -/
  | txAccept
  /-- `Reset` (R8, R280). -/
  | reset
  /-- The model's own: a bare word of spec/opcode_table.json, with no port that tells its format. -/
  | word (nbits w : Nat)
  /-- The model's own: the operation of row `row` of spec/opcode_table.json (counted from 1) by itself, for the rows
  that no port carries; `data` is its operand. -/
  | op (row : BitVec 8) (data : Block)
deriving DecidableEq, Repr

/-- What of the state selects a controller transition (R24, R234): the protocol state, refined by `idx`, `txp`, `mism`
and the verdict on the line being read. -/
structure ControlPoint where
  hsState : HsState
  idx : BitVec 5
  txp : Bool
  mism : Bool
  /-- `line_is` of the literal that `hsState` expects (R211). -/
  lineOk : Bool
deriving DecidableEq, Repr

end Sys2Proof
end

