-- ==== Sys2Proof/Machine/State.lean ====
section
/-! DEFINITION. The state of the machine as plain data: the elements of R20, the two channel streams of R60, the
configuration, and the model's own fields (pending inputs and the answer of the latest operation). -/

namespace Sys2Proof.Machine

open Sys2Proof

/-- A byte-indexed space of the device (R60): the block bytes or the line buffer, as (index, byte) pairs. An index
that is not listed reads 0x00, which is what every byte holds after reset (R41). Canonical form: `Memory.wf`. -/
abbrev Memory := List Host.Cell

/-- The canonical form of a space of `size` bytes: indices strictly rising and below `size`, and no entry equal to
what an unlisted index reads as. -/
abbrev Memory.wf (size : Nat) (m : Memory) : Prop :=
  m.Pairwise (fun c d => c.1 < d.1) ∧ ∀ c ∈ m, c.1 < size ∧ c.2 ≠ 0

/-- The nine field registers `F[0]` to `F[8]`, 64 bits each (R21, R22). -/
structure Fields where
  blockId : Word
  asdoEnabled : Word
  approachDirection : Word
  version : Word
  applicationCode : Word
  doorEnable : Word
  stopZoneLength : Word
  stationId : Word
  platformId : Word
deriving DecidableEq, Repr

/-- The masked values of the nine fields, each at its field width (R22, R160). -/
structure Record where
  blockId : BitVec 4
  asdoEnabled : BitVec 1
  approachDirection : BitVec 2
  version : BitVec 2
  applicationCode : BitVec 7
  doorEnable : BitVec 2
  stopZoneLength : BitVec 10
  stationId : BitVec 15
  platformId : BitVec 4
deriving DecidableEq, Repr

/-- The line reader (R33, R34). -/
structure LineReader where
  /-- `lr_buf[0..63]`. -/
  lrBuf : Memory
  /-- `lr_cnt`, the number of bytes stored. -/
  lrCnt : BitVec 7
  /-- `lr_end`, the length of the trimmed line held. -/
  lrEnd : BitVec 7
  /-- `lr_lead`, no non-whitespace byte seen yet. -/
  lrLead : Bool
  /-- `lr_ovf`, the trimmed line is longer than 64 bytes. -/
  lrOvf : Bool
deriving DecidableEq, Repr

/-- The signals of one clock cycle that the environment drives (R196, R202). `rx_data` is the first byte of the
receive stream (R65). -/
structure Pins where
  rst : Bool
  rxValid : Bool
  rxEnd : Bool
  txReady : Bool
  /-- The transaction presented with `h_valid`, if any. -/
  host : Option HostXn
deriving DecidableEq, Repr

/-- One pending input: what the environment does next (R7, R8). The order of the list is the order in which the agents
act, which R76 leaves free. -/
inductive Input where
  /-- The peripheral puts a byte on the receive stream (R65, R203). -/
  | sent (b : Byte)
  /-- One clock cycle with these signals (R202, R259). -/
  | cycle (p : Pins)
  /-- The host presents a transaction (R170). -/
  | hostXn (xn : HostXn)
  /-- The channel offers the first byte of the receive stream: `RxByte` if the controller is reading (R202). -/
  | rxByte
  /-- The channel ends the pending read: `RxEnd` if the controller is reading (R202). -/
  | rxEnd
  /-- The channel accepts the offered byte: `TxAccept` if the controller offers one (R202). -/
  | txAccept
  /-- Reset (R280). -/
  | reset
  /-- The model's own: a bare word of the opcode table (log entry 7). -/
  | word (nbits w : Nat)
  /-- The model's own: an operation that no port carries, by its row in the opcode table (log entry 8).
  A row that is only a part of steps is not run so (log entry 16). -/
  | op (row : BitVec 8) (data : Block)
deriving DecidableEq, Repr

/-- What the latest step gave the outside world (log entry 3): the response on the host port (R170), the value of a
combinational operation, or nothing. -/
inductive Output where
  /-- The step answers nothing. -/
  | silent
  /-- The operation is not enabled in the state it was asked for, or is no step by itself (R8); the step changed
  nothing else (R234). -/
  | noStep
  /-- `h_rdata` and `h_err` (R170). -/
  | host (rdata : Word) (err : Bool)
  /-- A block of sixteen bytes. -/
  | block (b : Block)
  /-- One byte. -/
  | byte (b : Byte)
  /-- Several bytes, the lowest index first. -/
  | bytes (bs : List Byte)
  /-- `oor` and `dir_rsv` (R159). -/
  | flags (oor dirRsv : Bool)
  /-- The nine values and `canonical` of DECODE (R160). -/
  | record (r : Record) (canonical : Bool)
  /-- A 64-bit format value (R108). -/
  | word (w : Word)
deriving DecidableEq, Repr

/-- The machine's state. The elements of R20 are `F`, `hsState`, `reason`, `blk`, `idx`, `mism`, `txp`, `rxEnded` and
`lr`; the streams belong to the channel (R39, R60); `cfg`, `pending` and `out` are the model's own. -/
structure State where
  /-- The configuration (log entries 1 and 2). -/
  cfg : Config
  /-- `F[0..8]` (R21). -/
  F : Fields
  /-- `hs_state` (R25). -/
  hsState : HsState
  /-- `reason` (R27). -/
  reason : Reason
  /-- `blk[0..15]` (R28). -/
  blk : Memory
  /-- `idx` (R29). -/
  idx : BitVec 5
  /-- `mism` (R30). -/
  mism : Bool
  /-- `txp` (R31). -/
  txp : Bool
  /-- `rx_ended` (R32). -/
  rxEnded : Bool
  /-- `lr_buf`, `lr_cnt`, `lr_end`, `lr_lead`, `lr_ovf` (R33, R34). -/
  lr : LineReader
  /-- The receive stream: bytes sent by the peripheral and not consumed, first byte first (R65). -/
  rxStream : List Byte
  /-- The transmit stream: bytes the channel has accepted, first byte first (R66). -/
  txStream : List Byte
  /-- The inputs that the environment will present, in order (log entry 4). -/
  pending : List Input
  /-- What the latest step answered (log entry 3). -/
  out : Output
deriving DecidableEq, Repr

/-- The faults. The device has none of its own: its failures are next states (R250). -/
inductive Fault where
  /-- Raised by the step and by the arrival of a line when a channel event is enabled by R204 or R205 in a control
  state for which R234 has no row (Sending with `idx` above 15; VerifyingEcho with `txp` = 0 and `idx` above 15). The
  spec calls these states unreachable and gives them no effect. Safe: the model stops. -/
  | noTransition
deriving DecidableEq, Repr

/-- The refusals. -/
inductive Refusal where
  /-- Raised by an arm of `exec` whose instruction has no meaning yet; no arm is such. Safe: the model stops. -/
  | notModelled (mnemonic : String)
  /-- Raised by the step on one of the model's own inputs (a bare word or a row number) that names no operation.
  The device has no such input. Safe: the model stops. -/
  | noSuchOperation
deriving DecidableEq, Repr

/-- The result of a step. -/
abbrev Result := Host.Outcome State Fault Refusal

/-- The line reader after LINE_RESET (R209). -/
def LineReader.reset : LineReader :=
  { lrBuf := [], lrCnt := 0, lrEnd := 0, lrLead := true, lrOvf := false }

/-- The field registers after reset (R41). -/
def Fields.zero : Fields :=
  { blockId := 0, asdoEnabled := 0, approachDirection := 0, version := 0, applicationCode := 0, doorEnable := 0,
    stopZoneLength := 0, stationId := 0, platformId := 0 }

/-- The machine right after reset (R41, R280): every element of R20 at its reset value, the configuration of this
hardware, empty streams (95_test_vectors.md Part 3), and no input pending. -/
def State.reset : State :=
  { cfg := Config.device, F := Fields.zero, hsState := .idle, reason := .none, blk := [], idx := 0, mism := false,
    txp := false, rxEnded := false, lr := LineReader.reset, rxStream := [], txStream := [], pending := [],
    out := .silent }

end Sys2Proof.Machine
end

