-- ==== Sys2Proof/Machine/Operands.lean ====
section
/-! DEFINITION. The operands of the encoder and of the host registers: the named field registers, the packing table
(R92), the block bytes (R130), the inverse (R160), and how bytes are packed into wider values (R70). -/

namespace Sys2Proof.Machine

open Sys2Proof

/-! ### Field registers -/

/-- The raw value of a field register, `F[i]` (R21). -/
def Fields.get (F : Fields) : Field → Word
  | .blockId => F.blockId
  | .asdoEnabled => F.asdoEnabled
  | .approachDirection => F.approachDirection
  | .version => F.version
  | .applicationCode => F.applicationCode
  | .doorEnable => F.doorEnable
  | .stopZoneLength => F.stopZoneLength
  | .stationId => F.stationId
  | .platformId => F.platformId

/-- `F[i] <- v`, all 64 bits (R21, R111). -/
def Fields.set (F : Fields) (i : Field) (v : Word) : Fields :=
  match i with
  | .blockId => { F with blockId := v }
  | .asdoEnabled => { F with asdoEnabled := v }
  | .approachDirection => { F with approachDirection := v }
  | .version => { F with version := v }
  | .applicationCode => { F with applicationCode := v }
  | .doorEnable => { F with doorEnable := v }
  | .stopZoneLength => { F with stopZoneLength := v }
  | .stationId => { F with stationId := v }
  | .platformId => { F with platformId := v }

end Sys2Proof.Machine

namespace Sys2Proof

/-- The field width `w_i` (R22). -/
def Field.width : Field → Nat
  | .blockId => 4
  | .asdoEnabled => 1
  | .approachDirection => 2
  | .version => 2
  | .applicationCode => 7
  | .doorEnable => 2
  | .stopZoneLength => 10
  | .stationId => 15
  | .platformId => 4

/-- The nine fields in the order of R22. -/
def Field.all : List Field :=
  [.blockId, .asdoEnabled, .approachDirection, .version, .applicationCode, .doorEnable, .stopZoneLength, .stationId,
    .platformId]

/-- The value of `SID_LO_SHIFT` (R10). -/
def SidShift.amount : SidShift → Nat
  | .five => 5
  | .four => 4

/-- The bit of byte 5 that no field has: bit 4, or bit 7 under the other reading (R114, U5). -/
def SidShift.unusedBit : SidShift → Nat
  | .five => 4
  | .four => 7

end Sys2Proof

namespace Sys2Proof.Machine

open Sys2Proof

/-! ### The packing table -/

/-- One row of the packing table (R92): the bits of `field` from `srcLo` up go to byte `byte`, their least significant
bit at bit `offset`, under `mask`. -/
structure Piece where
  field : Field
  srcLo : Nat
  byte : Nat
  offset : Nat
  width : Nat
  mask : Byte
deriving DecidableEq, Repr

/-- "Shift the field's raw integer value to align with its target bit position within its byte, mask with the exact
bit-width mask" (R92): the shift is taken in 64 bits and the mask cuts it to the byte (R155). -/
def Piece.value (p : Piece) (F : Fields) : Byte :=
  let v := F.get p.field
  (if p.srcLo ≤ p.offset then v <<< (p.offset - p.srcLo) else v >>> (p.srcLo - p.offset)).setWidth 8 &&& p.mask

/-- P1 (R92, R138). -/
def piece1 : Piece := { field := .blockId, srcLo := 0, byte := 0, offset := 4, width := 4, mask := 0xF0 }
/-- P2 (R92, R139). -/
def piece2 : Piece := { field := .asdoEnabled, srcLo := 0, byte := 0, offset := 3, width := 1, mask := 0x08 }
/-- P3 (R92, R140). -/
def piece3 : Piece := { field := .approachDirection, srcLo := 0, byte := 0, offset := 1, width := 2, mask := 0x06 }
/-- P4 (R92, R141). -/
def piece4 : Piece := { field := .version, srcLo := 1, byte := 0, offset := 0, width := 1, mask := 0x01 }
/-- P5 (R92, R142). -/
def piece5 : Piece := { field := .version, srcLo := 0, byte := 1, offset := 7, width := 1, mask := 0x80 }
/-- P6 (R92, R143). -/
def piece6 : Piece := { field := .applicationCode, srcLo := 0, byte := 1, offset := 0, width := 7, mask := 0x7F }
/-- P7 (R92, R144). -/
def piece7 : Piece := { field := .doorEnable, srcLo := 0, byte := 2, offset := 6, width := 2, mask := 0xC0 }
/-- P8 (R92, R145). -/
def piece8 : Piece := { field := .stopZoneLength, srcLo := 4, byte := 2, offset := 0, width := 6, mask := 0x3F }
/-- P9 (R92, R146). -/
def piece9 : Piece := { field := .stopZoneLength, srcLo := 0, byte := 3, offset := 4, width := 4, mask := 0xF0 }
/-- P10 (R92, R147). -/
def piece10 : Piece := { field := .stationId, srcLo := 11, byte := 3, offset := 0, width := 4, mask := 0x0F }
/-- P11 (R92, R148). -/
def piece11 : Piece := { field := .stationId, srcLo := 3, byte := 4, offset := 0, width := 8, mask := 0xFF }
/-- P12 (R92, R149), in the general form over `SID_LO_SHIFT`. -/
def piece12 (sh : SidShift) : Piece :=
  { field := .stationId, srcLo := 0, byte := 5, offset := sh.amount, width := 3, mask := 0x07 <<< sh.amount }
/-- P13 (R92, R150). -/
def piece13 : Piece := { field := .platformId, srcLo := 0, byte := 5, offset := 0, width := 4, mask := 0x0F }

/-- The packing table (R92). -/
def pieces (sh : SidShift) : List Piece :=
  [piece1, piece2, piece3, piece4, piece5, piece6, piece7, piece8, piece9, piece10, piece11, piece12 sh, piece13]

/-! ### The block -/

/-- Byte `k` of `ENCODE(F)`, by the formulas of R130. -/
def encodeByte (sh : SidShift) (F : Fields) (k : Nat) : Byte :=
  match k with
  | 0 =>
    (((F.blockId <<< 4) &&& 0xF0) ||| ((F.asdoEnabled <<< 3) &&& 0x08) ||| ((F.approachDirection <<< 1) &&& 0x06)
      ||| ((F.version >>> 1) &&& 0x01)).setWidth 8
  | 1 => (((F.version <<< 7) &&& 0x80) ||| (F.applicationCode &&& 0x7F)).setWidth 8
  | 2 => (((F.doorEnable <<< 6) &&& 0xC0) ||| ((F.stopZoneLength >>> 4) &&& 0x3F)).setWidth 8
  | 3 => (((F.stopZoneLength <<< 4) &&& 0xF0) ||| ((F.stationId >>> 11) &&& 0x0F)).setWidth 8
  | 4 => ((F.stationId >>> 3) &&& 0xFF).setWidth 8
  | 5 =>
    (((F.stationId <<< sh.amount) &&& (0x07 <<< sh.amount)) ||| (F.platformId &&& 0x0F)).setWidth 8
  | _ => 0x00

/-- Eight bytes as a 64-bit register, byte 0 most significant (R70, R109, R110). -/
def packRegister (b : Nat → Byte) : Word :=
  b 0 ++ b 1 ++ b 2 ++ b 3 ++ b 4 ++ b 5 ++ b 6 ++ b 7

/-- Sixteen bytes as a 128-bit block, byte 0 most significant (R70, R163). -/
def packBlock (b : Nat → Byte) : Block :=
  packRegister b ++ packRegister (fun k => b (8 + k))

/-- `enc_block` (R130, R163). -/
def encodeBlock (sh : SidShift) (F : Fields) : Block := packBlock (encodeByte sh F)

/-- The sixteen bytes of `ENCODE(F)` in order (R130). -/
def encodeBytes (sh : SidShift) (F : Fields) : List Byte :=
  (List.range Config.blockBytes).map (encodeByte sh F)

/-! ### The inverse -/

/-- Byte `k` of a 128-bit block: bits `[127-8k : 120-8k]` (R70). -/
def blockByte (x : Block) (k : Nat) : Byte := x.extractLsb' (120 - 8 * k) 8

/-- DECODE (R160); the place of `station_id[2:0]` in byte 5 mirrors `SID_LO_SHIFT` (92_eei_decisions.md). -/
def decodeRecord (sh : SidShift) (x : Block) : Record :=
  let X := blockByte x
  { blockId := (X 0).extractLsb' 4 4
    asdoEnabled := (X 0).extractLsb' 3 1
    approachDirection := (X 0).extractLsb' 1 2
    version := (X 0).extractLsb' 0 1 ++ (X 1).extractLsb' 7 1
    applicationCode := (X 1).extractLsb' 0 7
    doorEnable := (X 2).extractLsb' 6 2
    stopZoneLength := (X 2).extractLsb' 0 6 ++ (X 3).extractLsb' 4 4
    stationId := (X 3).extractLsb' 0 4 ++ X 4 ++ (X 5).extractLsb' sh.amount 3
    platformId := (X 5).extractLsb' 0 4 }

/-- `canonical` of R160: the unused bit of byte 5 is 0 and bytes 6 to 15 are 0x00. -/
def canonical (sh : SidShift) (x : Block) : Bool :=
  !(blockByte x 5).getLsbD sh.unusedBit &&
    (List.range 10).all (fun k => blockByte x (6 + k) == 0)

/-- The masked values of the field registers, `F[i][w_i-1:0]` (R151, R161). -/
def Fields.masked (F : Fields) : Record :=
  { blockId := F.blockId.setWidth 4
    asdoEnabled := F.asdoEnabled.setWidth 1
    approachDirection := F.approachDirection.setWidth 2
    version := F.version.setWidth 2
    applicationCode := F.applicationCode.setWidth 7
    doorEnable := F.doorEnable.setWidth 2
    stopZoneLength := F.stopZoneLength.setWidth 10
    stationId := F.stationId.setWidth 15
    platformId := F.platformId.setWidth 4 }

/-- A record as field registers, `zext_64` of each value (R161). -/
def Record.extend (r : Record) : Fields :=
  { blockId := r.blockId.setWidth 64
    asdoEnabled := r.asdoEnabled.setWidth 64
    approachDirection := r.approachDirection.setWidth 64
    version := r.version.setWidth 64
    applicationCode := r.applicationCode.setWidth 64
    doorEnable := r.doorEnable.setWidth 64
    stopZoneLength := r.stopZoneLength.setWidth 64
    stationId := r.stationId.setWidth 64
    platformId := r.platformId.setWidth 64 }

end Sys2Proof.Machine
end

