-- ==== Sys2Proof/Machine/Flags.lean ====
section
/-! DEFINITION. Every flag and output that is a function of the state: the codes of R26 and R27, `busy`, `done`, `oor`,
`dir_rsv`, the outputs of R37, the line verdict and the register values the host reads. -/

namespace Sys2Proof

/-- The code of a protocol state (R26). -/
def HsState.code : HsState → BitVec 3
  | .idle => 0
  | .awaitingReady => 1
  | .sending => 2
  | .verifyingEcho => 3
  | .awaitingDone => 4
  | .success => 5
  | .failed => 6

/-- The code of a failure reason (R27). -/
def Reason.code : Reason → BitVec 2
  | .none => 0
  | .writerNotDetected => 1
  | .echoMismatch => 2
  | .writeFailed => 3

/-- `busy` as a function of `hs_state` (R35). -/
def HsState.busy : HsState → Bool
  | .awaitingReady | .sending | .verifyingEcho | .awaitingDone => true
  | .idle | .success | .failed => false

/-- `done` as a function of `hs_state` (R35). -/
def HsState.done : HsState → Bool
  | .success | .failed => true
  | .idle | .awaitingReady | .sending | .verifyingEcho | .awaitingDone => false

end Sys2Proof

namespace Sys2Proof.Machine

open Sys2Proof

/-! ### Byte spaces -/

/-- The byte at an index of a space; an unlisted index reads 0x00 (R41). -/
def Memory.read : Memory → Nat → Byte
  | [], _ => 0
  | (x, c) :: m, a => if a = x then c else Memory.read m a

/-! ### Advisory flags -/

/-- `oor`: some field register holds a raw value that does not fit its field width (R36, R159). -/
def Fields.oor (F : Fields) : Bool :=
  (F.blockId >>> 4 != 0) || (F.asdoEnabled >>> 1 != 0) || (F.approachDirection >>> 2 != 0) || (F.version >>> 2 != 0)
    || (F.applicationCode >>> 7 != 0) || (F.doorEnable >>> 2 != 0) || (F.stopZoneLength >>> 10 != 0)
    || (F.stationId >>> 15 != 0) || (F.platformId >>> 4 != 0)

/-- `dir_rsv`: the masked approach code is 0 or 3 (R36, R159). -/
def Fields.dirRsv (F : Fields) : Bool :=
  F.approachDirection.setWidth 2 == (0 : BitVec 2) || F.approachDirection.setWidth 2 == (3 : BitVec 2)

/-! ### The line reader's view -/

/-- Byte `j` of the detail: `lr_buf[j]` below `lr_end`, 0x00 from there on (R110). -/
def LineReader.detailByte (l : LineReader) (j : Nat) : Byte :=
  if j < l.lrEnd.toNat then l.lrBuf.read j else 0

/-- The detail, `lr_buf[0 .. lr_end-1]` (R33). -/
def LineReader.detail (l : LineReader) : List Byte := (List.range l.lrEnd.toNat).map l.lrBuf.read

/-- `line_is(lit)` (R211). -/
def LineReader.lineIs (l : LineReader) (lit : List Byte) : Bool :=
  !l.lrOvf && l.lrEnd.toNat == lit.length &&
    (List.range lit.length).all (fun j => l.lrBuf.read j == lit.getD j 0)

/-- A byte sequence with every leading and every trailing byte of `ws` removed (R12, R106). -/
def trim (ws : List Byte) (line : List Byte) : List Byte :=
  ((line.dropWhile (· ∈ ws)).reverse.dropWhile (· ∈ ws)).reverse

/-! ### Outputs (R37) -/

/-- `busy` (R35). -/
def State.busy (s : State) : Bool := s.hsState.busy

/-- `done` (R35). -/
def State.done (s : State) : Bool := s.hsState.done

/-- `enc_block`, the live block (R163). -/
def State.encBlock (s : State) : Block := encodeBlock s.cfg.sidShift s.F

/-- The live block byte `B[k]` (R63, R130). -/
def State.liveByte (s : State) (k : Nat) : Byte := encodeByte s.cfg.sidShift s.F k

/-- `rx_ready` (R204). -/
def State.rxReady (s : State) : Bool :=
  s.hsState == .awaitingReady || s.hsState == .awaitingDone || (s.hsState == .verifyingEcho && !s.txp)

/-- `tx_valid` (R205). -/
def State.txValid (s : State) : Bool :=
  s.hsState == .sending || (s.hsState == .verifyingEcho && s.txp)

/-- `tx_data` (R206): `blk[idx]` in Sending, the verdict byte in VerifyingEcho with `txp` = 1, else 0x00. -/
def State.txData (s : State) : Byte :=
  if s.hsState = .sending then s.blk.read s.idx.toNat
  else if s.hsState = .verifyingEcho ∧ s.txp = true then (if s.mism then Config.abort else Config.proceed)
  else 0x00

/-- `ch_active` (R207). -/
def State.chActive (s : State) : Bool := s.busy

/-- `irq`, a level equal to `done` (R258). -/
def State.irq (s : State) : Bool := s.done

/-- `h_rdata` and `h_err`, the result of the current host access; nothing where the latest step was none (R37, R170). -/
def State.hostResponse (s : State) : Option (Word × Bool) :=
  match s.out with
  | .host rdata err => some (rdata, err)
  | .silent | .noStep | .block _ | .byte _ | .bytes _ | .flags _ _ | .record _ _ | .word _ => none

/-! ### Register values (R107 to R111) -/

/-- One bit of STATUS at its place. -/
def statusBit (b : Bool) (place : Nat) : Word := (BitVec.ofBool b).setWidth 64 <<< place

/-- STATUS (R108), by its formula. -/
def State.statusWord (s : State) : Word :=
  s.hsState.code.setWidth 64 ||| statusBit s.busy 3 ||| statusBit s.done 4 ||| (s.reason.code.setWidth 64 <<< 5)
    ||| statusBit s.F.oor 7 ||| statusBit s.F.dirRsv 8 ||| statusBit s.lr.lrOvf 9 ||| statusBit s.rxEnded 10
    ||| statusBit s.mism 11 ||| (s.lr.lrEnd.setWidth 64 <<< 16) ||| (s.idx.setWidth 64 <<< 24)

/-- ENC_HI: live bytes 0 to 7 (R109, R182). -/
def State.encHi (s : State) : Word := packRegister s.liveByte

/-- ENC_LO: live bytes 8 to 15 (R109, R183). -/
def State.encLo (s : State) : Word := packRegister (fun k => s.liveByte (8 + k))

/-- SENT_HI: latched bytes 0 to 7 (R109, R187). -/
def State.sentHi (s : State) : Word := packRegister s.blk.read

/-- SENT_LO: latched bytes 8 to 15 (R109, R188). -/
def State.sentLo (s : State) : Word := packRegister (fun k => s.blk.read (8 + k))

/-- DETAILk (R110, R189). -/
def State.detailReg (s : State) (k : Nat) : Word := packRegister (fun j => s.lr.detailByte (8 * k + j))

end Sys2Proof.Machine
end

