-- ==== Sys2Proof/Machine/Ops.lean ====
section
/-! DEFINITION. The shared operations: writes of one state element, the byte spaces, the line reader, the host port,
the failure entry (R256) and the ways out of a terminal state (R260), the commands, and every controller transition
of R213 to R230 as an operation on the state. -/

namespace Sys2Proof.Machine

open Sys2Proof

/-! ### Byte spaces -/

/-- Writes a byte of a space, keeping the canonical form: writing 0x00 leaves the index unlisted. -/
def Memory.write : Memory → Nat → Byte → Memory
  | [], a, b => if b = 0 then [] else [(a, b)]
  | (x, c) :: m, a, b =>
    if a < x then (if b = 0 then (x, c) :: m else (a, b) :: (x, c) :: m)
    else if a = x then (if b = 0 then m else (a, b) :: m)
    else (x, c) :: Memory.write m a b

/-- The space that holds `bs` from index `a` on and 0x00 elsewhere. -/
def Memory.ofBytes : Nat → List Byte → Memory
  | _, [] => []
  | a, b :: bs => if b = 0 then Memory.ofBytes (a + 1) bs else (a, b) :: Memory.ofBytes (a + 1) bs

/-! ### Writes of one element -/

/-- Records what the step answers. -/
def State.answer (o : Output) (s : State) : State := { s with out := o }

/-- `F[i] <- v` (R21). -/
def State.setField (i : Field) (v : Word) (s : State) : State := { s with F := s.F.set i v }

/-- `hs_state <- h`. -/
def State.enter (h : HsState) (s : State) : State := { s with hsState := h }

/-- `reason <- r`. -/
def State.setReason (r : Reason) (s : State) : State := { s with reason := r }

/-- `blk[0..15] <- m`. -/
def State.setBlk (m : Memory) (s : State) : State := { s with blk := m }

/-- `idx <- n`. -/
def State.setIdx (n : BitVec 5) (s : State) : State := { s with idx := n }

/-- `mism <- b`. -/
def State.setMism (b : Bool) (s : State) : State := { s with mism := b }

/-- `txp <- b`. -/
def State.setTxp (b : Bool) (s : State) : State := { s with txp := b }

/-- `rx_ended <- b`. -/
def State.setRxEnded (b : Bool) (s : State) : State := { s with rxEnded := b }

/-- Writes the five elements of the line reader. -/
def State.setLr (l : LineReader) (s : State) : State := { s with lr := l }

/-- Sets the receive stream. -/
def State.setRxStream (bs : List Byte) (s : State) : State := { s with rxStream := bs }

/-- `Tx(b)`: the channel accepts `b`, which is appended to the transmit stream (R12, R66). -/
def State.transmit (b : Byte) (s : State) : State := { s with txStream := s.txStream ++ [b] }

/-- Sets the pending inputs. -/
def State.setPending (ps : List Input) (s : State) : State := { s with pending := ps }

/-! ### The line reader -/

/-- `LineByte(b)` (R210), with `WS` given. -/
def LineReader.lineByte (ws : List Byte) (b : Byte) (l : LineReader) : LineReader :=
  if l.lrLead = true ∧ b ∈ ws then l
  else if l.lrCnt < 64 then
    { lrBuf := l.lrBuf.write l.lrCnt.toNat b
      lrCnt := l.lrCnt + 1
      lrEnd := if b ∈ ws then l.lrEnd else l.lrCnt + 1
      lrLead := false
      lrOvf := l.lrOvf }
  else { l with lrLead := false, lrOvf := if b ∈ ws then l.lrOvf else true }

/-- Line reader reset (R209). -/
def State.lineReset (s : State) : State := s.setLr LineReader.reset

/-- `LineByte(b)` in the machine: nothing but the line reader changes (R210, R214, R225). -/
def State.readLineByte (b : Byte) (s : State) : State := s.setLr (s.lr.lineByte s.cfg.ws b)

/-! ### Failure entry and the ways out of a terminal state -/

/-- TAKING AN EXCEPTION: `fail(r)`, the only way into Failed (R256). Nothing else is written. -/
def State.fail (r : Reason) (s : State) : State := (s.setReason r).enter .failed

/-- The session elements that START, CLEAR and reset all clear: `reason`, `idx`, `mism`, `txp`, `rx_ended` and the line
reader (R191, R192, R280). -/
def State.wipeSession (s : State) : State :=
  (((((s.setReason .none).setIdx 0).setMism false).setTxp false).setRxEnded false).lineReset

/-- START, accepted (R191): `blk` takes the snapshot of ENCODE(F) and a fresh session begins. -/
def State.startSession (s : State) : State :=
  ((s.setBlk (Memory.ofBytes 0 (encodeBytes s.cfg.sidShift s.F))).enter .awaitingReady).wipeSession

/-- RETURN FROM AN EXCEPTION: CLEAR, accepted (R192, R260). The field registers are not touched. -/
def State.clearSession (s : State) : State := ((s.setBlk []).enter .idle).wipeSession

/-- Reset (R280): every element of R20 takes its reset value; the channel's streams are the channel's (R281). -/
def State.resetDevice (s : State) : State :=
  { (((s.setBlk []).enter .idle).wipeSession) with F := Fields.zero }

/-! ### The host port -/

/-- A read that completes with `data` and `err = 0`; no state element changes (R170, R74). -/
def hostRead (data : Word) (s : State) : Result := .next (s.answer (.host data false))

/-- A write that completes with `err = 0`, leaving the state `after`; the read data of a write is 0 (R170). -/
def hostWrite (after : State) : Result := .next (after.answer (.host 0 false))

/-- `raise BusError`: `h_err = 1`, read data 0, no state element changes (R172, R257). -/
def busError (s : State) : Result := .next (s.answer (.host 0 true))

/-- The START command: accepted in Idle, Success and Failed, else ignored (R191, R194). -/
def State.commandStart (s : State) : State := if s.busy then s else s.startSession

/-- The CLEAR command: accepted in Success and Failed, else ignored (R192, R194). -/
def State.commandClear (s : State) : State := if s.done then s.clearSession else s

/-- A write of CTRL: START if bit 0 is set, else CLEAR if bit 1 is set, else nothing (R184, R193). -/
def State.commandCtrl (v : Word) (s : State) : State :=
  if v.getLsbD 0 then s.commandStart else if v.getLsbD 1 then s.commandClear else s

/-! ### Controller transitions -/

/-- An operation that is enabled only under a condition: where it is, it happens; where it is not, the step does not
exist and no state element changes (R202, R234, log entry 5). -/
def whenEnabled (enabled : Prop) [Decidable enabled] (after s : State) : Result :=
  if enabled then .next (after.answer .silent) else .next (s.answer .noStep)

/-- The line being read in AwaitingReady is LIT_READY (R211). -/
def State.isReadyLine (s : State) : Bool := s.lr.lineIs Config.litReady

/-- The line being read in AwaitingDone is LIT_DONE (R211). -/
def State.isDoneLine (s : State) : Bool := s.lr.lineIs Config.litDone

/-- The ready line is the literal: `hs_state <- Sending; idx <- 0` (R215). -/
def State.readyMatch (s : State) : State := (s.enter .sending).setIdx 0

/-- The ready line is anything else: `fail(WriterNotDetected)` (R216). -/
def State.readyOther (s : State) : State := s.fail .writerNotDetected

/-- The verdict on a ready line that has ended (R215, R216). -/
def State.judgeReady (s : State) : State := if s.isReadyLine then s.readyMatch else s.readyOther

/-- AwaitingReady, RxEnd (R217). -/
def State.readyEnd (s : State) : State := (s.setRxEnded true).judgeReady

/-- `blk[idx]` (R206, R220). -/
def State.blkAtIdx (s : State) : Byte := s.blk.read s.idx.toNat

/-- Sending, TxAccept, idx < 15: `Tx(blk[idx]); idx <- idx + 1` (R218). -/
def State.sendByte (s : State) : State := (s.transmit s.blkAtIdx).setIdx (s.idx + 1)

/-- Sending, TxAccept, idx = 15 (R219). -/
def State.sendLast (s : State) : State :=
  ((((s.transmit (s.blk.read 15)).enter .verifyingEcho).setIdx 0).setMism false).setTxp false

/-- `if b ≠ blk[idx] then mism <- 1` (R220, R221). -/
def State.compareEcho (b : Byte) (s : State) : State := if b = s.blkAtIdx then s else s.setMism true

/-- VerifyingEcho, RxByte(b), idx < 15 (R220). -/
def State.echoByte (b : Byte) (s : State) : State := (s.compareEcho b).setIdx (s.idx + 1)

/-- VerifyingEcho, RxByte(b), idx = 15 (R221). -/
def State.echoLast (b : Byte) (s : State) : State := ((s.compareEcho b).setIdx 16).setTxp true

/-- VerifyingEcho, RxEnd (R222). -/
def State.echoEnd (s : State) : State := ((s.setMism true).setRxEnded true).setTxp true

/-- The channel accepts PROCEED (R223). -/
def State.sendProceed (s : State) : State :=
  (((s.transmit Config.proceed).setTxp false).enter .awaitingDone).lineReset

/-- The channel accepts ABORT (R224). -/
def State.sendAbort (s : State) : State := ((s.transmit Config.abort).setTxp false).fail .echoMismatch

/-- The done line is the literal: `hs_state <- Success` (R226). -/
def State.doneMatch (s : State) : State := s.enter .success

/-- The done line is anything else: `fail(WriteFailed)` (R227). -/
def State.doneOther (s : State) : State := s.fail .writeFailed

/-- The verdict on a done line that has ended (R226, R227). -/
def State.judgeDone (s : State) : State := if s.isDoneLine then s.doneMatch else s.doneOther

/-- AwaitingDone, RxEnd (R228). -/
def State.doneEnd (s : State) : State := (s.setRxEnded true).judgeDone

/-- VerifyingEcho while the echo is read (R25). -/
abbrev State.readingEcho (s : State) : Prop := s.hsState = .verifyingEcho ∧ s.txp = false

/-- VerifyingEcho while the verdict byte waits, with verdict `mism` (R25, R206). -/
abbrev State.verdictWaits (mism : Bool) (s : State) : Prop :=
  s.hsState = .verifyingEcho ∧ s.txp = true ∧ s.mism = mism

/-! ### Arrival of bytes: the message level (R233) -/

/-- The controller's transition on `RxByte(b)`, where R234 has one. -/
def State.rxTransition (b : Byte) (s : State) : Option State :=
  match s.hsState with
  | .awaitingReady => some (if b = Config.nl then s.judgeReady else s.readLineByte b)
  | .awaitingDone => some (if b = Config.nl then s.judgeDone else s.readLineByte b)
  | .verifyingEcho =>
    if s.txp then none
    else if s.idx < 15 then some (s.echoByte b)
    else if s.idx = 15 then some (s.echoLast b)
    else none
  | .idle | .sending | .success | .failed => none

/-- The channel delivers the bytes of the receive stream, given as `bs`, as long as the controller is reading; what it
does not read waits in the stream, in order (R65, R233). -/
def State.deliver : List Byte → State → Result
  | [], s => .next ((s.setRxStream []).answer .silent)
  | b :: bs, s =>
    if s.rxReady then
      match s.rxTransition b with
      | some s' => State.deliver bs s'
      | none => .fault .noTransition
    else .next ((s.setRxStream (b :: bs)).answer .silent)

/-- Bytes arrive from the peripheral: they join the receive stream, and the channel delivers it (R65, R203). -/
def State.arrive (bs : List Byte) (s : State) : Result := State.deliver (s.rxStream ++ bs) s

end Sys2Proof.Machine
end

