-- ==== Sys2Proof/Machine/Command.lean ====
section
/-! DEFINITION. The commands (R184, R191 to R195), the formats of the control and status registers (R107, R108), and reset (R280). -/

namespace Sys2Proof.Machine

open Sys2Proof

/-- START (R191, R194). The row's pattern has bit 0 of `v` set; the other bits are ignored (R193). -/
def execStart (_v : Word) (s : State) : Result := hostWrite s.commandStart

/-- CLEAR (R192, R194). The row's pattern has bits 1:0 of `v` = 10b; the other bits are ignored. -/
def execClear (_v : Word) (s : State) : Result := hostWrite s.commandClear

/-- A write of CTRL with bits 1:0 = 00b: nothing, `err = 0` (R184). -/
def execWrCtrlNoCommand (_v : Word) (s : State) : Result := hostWrite s

/-- A write of CTRL with the value `v`: the command that its bits 1:0 name (R107, R184). -/
def execCtrl (v : Word) (s : State) : Result := hostWrite (s.commandCtrl v)

/-- The STATUS format: the value of the status word (R108). -/
def execStatus (s : State) : Result := .next (s.answer (.word s.statusWord))

/-- RESET, enabled in every state (R280 to R282). -/
def execReset (s : State) : Result := .next (s.resetDevice.answer .silent)

end Sys2Proof.Machine
end

