-- ==== Sys2Proof/Machine/Encoder.lean ====
section
/-! DEFINITION. The encoder's operations (R130 to R161): each evaluates a function of the field registers, or of the sixteen bytes
given, and answers its value; none changes a state element (R152, R153, log entry 9). -/

namespace Sys2Proof.Machine

open Sys2Proof

/-- ENCODE (R130, R163). -/
def execEncode (s : State) : Result := .next (s.answer (.block s.encBlock))

/-- BYTE0 (R131). -/
def execByte0 (s : State) : Result := .next (s.answer (.byte (s.liveByte 0)))

/-- BYTE1 (R132). -/
def execByte1 (s : State) : Result := .next (s.answer (.byte (s.liveByte 1)))

/-- BYTE2 (R133). -/
def execByte2 (s : State) : Result := .next (s.answer (.byte (s.liveByte 2)))

/-- BYTE3 (R134). -/
def execByte3 (s : State) : Result := .next (s.answer (.byte (s.liveByte 3)))

/-- BYTE4 (R135). -/
def execByte4 (s : State) : Result := .next (s.answer (.byte (s.liveByte 4)))

/-- BYTE5 (R136). -/
def execByte5 (s : State) : Result := .next (s.answer (.byte (s.liveByte 5)))

/-- BYTE6_15: the ten reserved bytes (R137). -/
def execByte6to15 (s : State) : Result := 
  .next (s.answer (.bytes ((List.range 10).map (fun k => s.liveByte (6 + k)))))

/-- P1 (R138). -/
def execP1 (s : State) : Result := .next (s.answer (.byte (piece1.value s.F)))

/-- P2 (R139). -/
def execP2 (s : State) : Result := .next (s.answer (.byte (piece2.value s.F)))

/-- P3 (R140). -/
def execP3 (s : State) : Result := .next (s.answer (.byte (piece3.value s.F)))

/-- P4 (R141). -/
def execP4 (s : State) : Result := .next (s.answer (.byte (piece4.value s.F)))

/-- P5 (R142). -/
def execP5 (s : State) : Result := .next (s.answer (.byte (piece5.value s.F)))

/-- P6 (R143). -/
def execP6 (s : State) : Result := .next (s.answer (.byte (piece6.value s.F)))

/-- P7 (R144). -/
def execP7 (s : State) : Result := .next (s.answer (.byte (piece7.value s.F)))

/-- P8 (R145). -/
def execP8 (s : State) : Result := .next (s.answer (.byte (piece8.value s.F)))

/-- P9 (R146). -/
def execP9 (s : State) : Result := .next (s.answer (.byte (piece9.value s.F)))

/-- P10 (R147). -/
def execP10 (s : State) : Result := .next (s.answer (.byte (piece10.value s.F)))

/-- P11 (R148). -/
def execP11 (s : State) : Result := .next (s.answer (.byte (piece11.value s.F)))

/-- P12 (R149). -/
def execP12 (s : State) : Result := .next (s.answer (.byte ((piece12 s.cfg.sidShift).value s.F)))

/-- P13 (R150). -/
def execP13 (s : State) : Result := .next (s.answer (.byte (piece13.value s.F)))

/-- OOR_FLAGS (R159). -/
def execOorFlags (s : State) : Result := .next (s.answer (.flags s.F.oor s.F.dirRsv))

/-- DECODE of the sixteen bytes `x` (R160). -/
def execDecode (x : Block) (s : State) : Result := 
  .next (s.answer (.record (decodeRecord s.cfg.sidShift x) (canonical s.cfg.sidShift x)))

end Sys2Proof.Machine
end

