-- ==== Sys2Proof/Machine/Handshake.lean ====
section
/-! DEFINITION. The controller's transitions, one per state and event (R213 to R230, R234), and the sub-operations that the table
lists by themselves (R209, R210, R256), which `step` runs only inside the transitions and commands (R8, log entry 16).
Each is enabled in the state that its row names. -/

namespace Sys2Proof.Machine

open Sys2Proof

/-- AR_BYTE (R214). -/
def execArByte (b : Byte) (s : State) : Result := 
  whenEnabled (s.hsState = .awaitingReady ∧ b ≠ Config.nl) (s.readLineByte b) s

/-- AR_NL_MATCH (R215). -/
def execArNlMatch (s : State) : Result := 
  whenEnabled (s.hsState = .awaitingReady ∧ s.isReadyLine = true) s.readyMatch s

/-- AR_NL_OTHER (R216). -/
def execArNlOther (s : State) : Result := 
  whenEnabled (s.hsState = .awaitingReady ∧ s.isReadyLine = false) s.readyOther s

/-- AR_END (R217). -/
def execArEnd (s : State) : Result := 
  whenEnabled (s.hsState = .awaitingReady) s.readyEnd s

/-- SEND_BYTE (R218). -/
def execSendByte (s : State) : Result := 
  whenEnabled (s.hsState = .sending ∧ s.idx < 15) s.sendByte s

/-- SEND_LAST (R219). -/
def execSendLast (s : State) : Result := 
  whenEnabled (s.hsState = .sending ∧ s.idx = 15) s.sendLast s

/-- ECHO_BYTE (R220). -/
def execEchoByte (b : Byte) (s : State) : Result := 
  whenEnabled (s.readingEcho ∧ s.idx < 15) (s.echoByte b) s

/-- ECHO_LAST (R221). -/
def execEchoLast (b : Byte) (s : State) : Result := 
  whenEnabled (s.readingEcho ∧ s.idx = 15) (s.echoLast b) s

/-- ECHO_END (R222). -/
def execEchoEnd (s : State) : Result := 
  whenEnabled (s.readingEcho) s.echoEnd s

/-- VERDICT_PROCEED (R223). -/
def execVerdictProceed (s : State) : Result := 
  whenEnabled (s.verdictWaits false) s.sendProceed s

/-- VERDICT_ABORT (R224). -/
def execVerdictAbort (s : State) : Result := 
  whenEnabled (s.verdictWaits true) s.sendAbort s

/-- AD_BYTE (R225). -/
def execAdByte (b : Byte) (s : State) : Result := 
  whenEnabled (s.hsState = .awaitingDone ∧ b ≠ Config.nl) (s.readLineByte b) s

/-- AD_NL_MATCH (R226). -/
def execAdNlMatch (s : State) : Result := 
  whenEnabled (s.hsState = .awaitingDone ∧ s.isDoneLine = true) s.doneMatch s

/-- AD_NL_OTHER (R227). -/
def execAdNlOther (s : State) : Result := 
  whenEnabled (s.hsState = .awaitingDone ∧ s.isDoneLine = false) s.doneOther s

/-- AD_END (R228). -/
def execAdEnd (s : State) : Result := 
  whenEnabled (s.hsState = .awaitingDone) s.doneEnd s

/-- LINEBYTE, the sub-operation of AR_BYTE and AD_BYTE, in their states (R210). -/
def execLineByte (b : Byte) (s : State) : Result := 
  whenEnabled ((s.hsState = .awaitingReady ∨ s.hsState = .awaitingDone) ∧ b ≠ Config.nl) (s.readLineByte b) s

/-- LINE_RESET, the sub-operation of START, CLEAR, VERDICT_PROCEED and RESET, in any state (R209). -/
def execLineReset (s : State) : Result := .next (s.lineReset.answer .silent)

/-- FAIL, the sub-operation `fail(r)` of a busy session, for the three reasons it has (R256). -/
def execFail (r : Reason) (s : State) : Result := 
  whenEnabled (s.busy = true ∧ r ≠ .none) (s.fail r) s

end Sys2Proof.Machine
end

