-- ==== Sys2Proof/Machine/HostPort.lean ====
section
/-! DEFINITION. The host's register accesses (R170 to R190). A read answers its data and changes no state element; a write of a field
register stores all 64 bits in every state; a write of a read-only register and any access to an unmapped number
raise BusError. -/

namespace Sys2Proof.Machine

open Sys2Proof

/-- HostWrite(0, v): `F[0] <- v` (R173). -/
def execWrFBlockId (v : Word) (s : State) : Result := hostWrite (s.setField .blockId v)

/-- HostRead(0): returns `(F[0], 0)` (R173). -/
def execRdFBlockId (s : State) : Result := hostRead (s.F.get .blockId) s

/-- HostWrite(1, v): `F[1] <- v` (R174). -/
def execWrFAsdoEnabled (v : Word) (s : State) : Result := hostWrite (s.setField .asdoEnabled v)

/-- HostRead(1): returns `(F[1], 0)` (R174). -/
def execRdFAsdoEnabled (s : State) : Result := hostRead (s.F.get .asdoEnabled) s

/-- HostWrite(2, v): `F[2] <- v` (R175). -/
def execWrFApproachDirection (v : Word) (s : State) : Result := hostWrite (s.setField .approachDirection v)

/-- HostRead(2): returns `(F[2], 0)` (R175). -/
def execRdFApproachDirection (s : State) : Result := hostRead (s.F.get .approachDirection) s

/-- HostWrite(3, v): `F[3] <- v` (R176). -/
def execWrFVersion (v : Word) (s : State) : Result := hostWrite (s.setField .version v)

/-- HostRead(3): returns `(F[3], 0)` (R176). -/
def execRdFVersion (s : State) : Result := hostRead (s.F.get .version) s

/-- HostWrite(4, v): `F[4] <- v` (R177). -/
def execWrFApplicationCode (v : Word) (s : State) : Result := hostWrite (s.setField .applicationCode v)

/-- HostRead(4): returns `(F[4], 0)` (R177). -/
def execRdFApplicationCode (s : State) : Result := hostRead (s.F.get .applicationCode) s

/-- HostWrite(5, v): `F[5] <- v` (R178). -/
def execWrFDoorEnable (v : Word) (s : State) : Result := hostWrite (s.setField .doorEnable v)

/-- HostRead(5): returns `(F[5], 0)` (R178). -/
def execRdFDoorEnable (s : State) : Result := hostRead (s.F.get .doorEnable) s

/-- HostWrite(6, v): `F[6] <- v` (R179). -/
def execWrFStopZoneLength (v : Word) (s : State) : Result := hostWrite (s.setField .stopZoneLength v)

/-- HostRead(6): returns `(F[6], 0)` (R179). -/
def execRdFStopZoneLength (s : State) : Result := hostRead (s.F.get .stopZoneLength) s

/-- HostWrite(7, v): `F[7] <- v` (R180). -/
def execWrFStationId (v : Word) (s : State) : Result := hostWrite (s.setField .stationId v)

/-- HostRead(7): returns `(F[7], 0)` (R180). -/
def execRdFStationId (s : State) : Result := hostRead (s.F.get .stationId) s

/-- HostWrite(8, v): `F[8] <- v` (R181). -/
def execWrFPlatformId (v : Word) (s : State) : Result := hostWrite (s.setField .platformId v)

/-- HostRead(8): returns `(F[8], 0)` (R181). -/
def execRdFPlatformId (s : State) : Result := hostRead (s.F.get .platformId) s

/-- HostRead of a read-only register (R182). -/
def execRdEncHi (s : State) : Result := hostRead s.encHi s

/-- HostWrite of a read-only register: BusError, whatever the value (R182, R172). -/
def execWrEncHi (_v : Word) (s : State) : Result := busError s

/-- HostRead of a read-only register (R183). -/
def execRdEncLo (s : State) : Result := hostRead s.encLo s

/-- HostWrite of a read-only register: BusError, whatever the value (R183, R172). -/
def execWrEncLo (_v : Word) (s : State) : Result := busError s

/-- HostRead of a read-only register (R186). -/
def execRdStatus (s : State) : Result := hostRead s.statusWord s

/-- HostWrite of a read-only register: BusError, whatever the value (R186, R172). -/
def execWrStatus (_v : Word) (s : State) : Result := busError s

/-- HostRead of a read-only register (R187). -/
def execRdSentHi (s : State) : Result := hostRead s.sentHi s

/-- HostWrite of a read-only register: BusError, whatever the value (R187, R172). -/
def execWrSentHi (_v : Word) (s : State) : Result := busError s

/-- HostRead of a read-only register (R188). -/
def execRdSentLo (s : State) : Result := hostRead s.sentLo s

/-- HostWrite of a read-only register: BusError, whatever the value (R188, R172). -/
def execWrSentLo (_v : Word) (s : State) : Result := busError s

/-- HostRead of a read-only register (R189). -/
def execRdDetail0 (s : State) : Result := hostRead (s.detailReg 0) s

/-- HostWrite of a read-only register: BusError, whatever the value (R189, R172). -/
def execWrDetail0 (_v : Word) (s : State) : Result := busError s

/-- HostRead of a read-only register (R189). -/
def execRdDetail1 (s : State) : Result := hostRead (s.detailReg 1) s

/-- HostWrite of a read-only register: BusError, whatever the value (R189, R172). -/
def execWrDetail1 (_v : Word) (s : State) : Result := busError s

/-- HostRead of a read-only register (R189). -/
def execRdDetail2 (s : State) : Result := hostRead (s.detailReg 2) s

/-- HostWrite of a read-only register: BusError, whatever the value (R189, R172). -/
def execWrDetail2 (_v : Word) (s : State) : Result := busError s

/-- HostRead of a read-only register (R189). -/
def execRdDetail3 (s : State) : Result := hostRead (s.detailReg 3) s

/-- HostWrite of a read-only register: BusError, whatever the value (R189, R172). -/
def execWrDetail3 (_v : Word) (s : State) : Result := busError s

/-- HostRead of a read-only register (R189). -/
def execRdDetail4 (s : State) : Result := hostRead (s.detailReg 4) s

/-- HostWrite of a read-only register: BusError, whatever the value (R189, R172). -/
def execWrDetail4 (_v : Word) (s : State) : Result := busError s

/-- HostRead of a read-only register (R189). -/
def execRdDetail5 (s : State) : Result := hostRead (s.detailReg 5) s

/-- HostWrite of a read-only register: BusError, whatever the value (R189, R172). -/
def execWrDetail5 (_v : Word) (s : State) : Result := busError s

/-- HostRead of a read-only register (R189). -/
def execRdDetail6 (s : State) : Result := hostRead (s.detailReg 6) s

/-- HostWrite of a read-only register: BusError, whatever the value (R189, R172). -/
def execWrDetail6 (_v : Word) (s : State) : Result := busError s

/-- HostRead of a read-only register (R189). -/
def execRdDetail7 (s : State) : Result := hostRead (s.detailReg 7) s

/-- HostWrite of a read-only register: BusError, whatever the value (R189, R172). -/
def execWrDetail7 (_v : Word) (s : State) : Result := busError s

/-- HostRead(12): returns `(0, 0)` in every state (R185). -/
def execRdCtrl (s : State) : Result := hostRead 0 s

/-- Register 9, read or write: BusError (R190). -/
def execUnmapped9 (_write : Bool) (_v : Word) (s : State) : Result := busError s

/-- Registers 24 to 31, read or write: BusError (R190). -/
def execUnmapped24to31 (_write : Bool) (_low : BitVec 3) (_v : Word) (s : State) : Result := busError s

end Sys2Proof.Machine
end

