-- ==== Sys2Proof/Machine/Signals.lean ====
section
/-! DEFINITION. The wire signals of R99 to R105 as they cross the channel: the verdict bytes where the channel accepts them, and the
text from the peripheral as its bytes arrive (log entries 6 and 10). -/

namespace Sys2Proof.Machine

open Sys2Proof

/-- ABORT: sent where the verdict byte waits and the echo differed; the channel accepts it (R100, R224). -/
def execAbort (s : State) : Result := 
  whenEnabled (s.verdictWaits true) s.sendAbort s

/-- PROCEED: sent where the verdict byte waits and the echo was faithful; the channel accepts it (R101, R223). -/
def execProceed (s : State) : Result := 
  whenEnabled (s.verdictWaits false) s.sendProceed s

/-- LIT_READY: the line `WRITER READY` and its terminator arrive (R102, R106, R215). -/
def execLitReady (s : State) : Result := s.arrive (Config.litReady ++ [Config.nl])

/-- LIT_DONE: the line `WRITE DONE` and its terminator arrive (R103, R106, R226). -/
def execLitDone (s : State) : Result := s.arrive (Config.litDone ++ [Config.nl])

/-- NL: the line terminator arrives (R104). -/
def execNl (s : State) : Result := s.arrive [Config.nl]

/-- WS: the byte `b` arrives, if it is in the set (R105); a byte outside the set is not this row's. -/
def execWs (b : Byte) (s : State) : Result := 
  if b ∈ s.cfg.ws then s.arrive [b] else .next (s.answer .noStep)

end Sys2Proof.Machine
end

