-- ==== Sys2Proof/Machine/Dispatch.lean ====
section
/-! DEFINITION. One arm per operation. -/

namespace Sys2Proof.Machine

open Sys2Proof

def exec (i : Instr) (s : State) : Host.Outcome State Fault Refusal :=
  match i with
  | .encode => Sys2Proof.Machine.execEncode s
  | .byte0 => Sys2Proof.Machine.execByte0 s
  | .byte1 => Sys2Proof.Machine.execByte1 s
  | .byte2 => Sys2Proof.Machine.execByte2 s
  | .byte3 => Sys2Proof.Machine.execByte3 s
  | .byte4 => Sys2Proof.Machine.execByte4 s
  | .byte5 => Sys2Proof.Machine.execByte5 s
  | .byte6to15 => Sys2Proof.Machine.execByte6to15 s
  | .p1 => Sys2Proof.Machine.execP1 s
  | .p2 => Sys2Proof.Machine.execP2 s
  | .p3 => Sys2Proof.Machine.execP3 s
  | .p4 => Sys2Proof.Machine.execP4 s
  | .p5 => Sys2Proof.Machine.execP5 s
  | .p6 => Sys2Proof.Machine.execP6 s
  | .p7 => Sys2Proof.Machine.execP7 s
  | .p8 => Sys2Proof.Machine.execP8 s
  | .p9 => Sys2Proof.Machine.execP9 s
  | .p10 => Sys2Proof.Machine.execP10 s
  | .p11 => Sys2Proof.Machine.execP11 s
  | .p12 => Sys2Proof.Machine.execP12 s
  | .p13 => Sys2Proof.Machine.execP13 s
  | .oorFlags => Sys2Proof.Machine.execOorFlags s
  | .decode x => Sys2Proof.Machine.execDecode x s
  | .abort => Sys2Proof.Machine.execAbort s
  | .proceed => Sys2Proof.Machine.execProceed s
  | .litReady => Sys2Proof.Machine.execLitReady s
  | .litDone => Sys2Proof.Machine.execLitDone s
  | .nl => Sys2Proof.Machine.execNl s
  | .ws b => Sys2Proof.Machine.execWs b s
  | .wrFBlockId v => Sys2Proof.Machine.execWrFBlockId v s
  | .rdFBlockId => Sys2Proof.Machine.execRdFBlockId s
  | .wrFAsdoEnabled v => Sys2Proof.Machine.execWrFAsdoEnabled v s
  | .rdFAsdoEnabled => Sys2Proof.Machine.execRdFAsdoEnabled s
  | .wrFApproachDirection v => Sys2Proof.Machine.execWrFApproachDirection v s
  | .rdFApproachDirection => Sys2Proof.Machine.execRdFApproachDirection s
  | .wrFVersion v => Sys2Proof.Machine.execWrFVersion v s
  | .rdFVersion => Sys2Proof.Machine.execRdFVersion s
  | .wrFApplicationCode v => Sys2Proof.Machine.execWrFApplicationCode v s
  | .rdFApplicationCode => Sys2Proof.Machine.execRdFApplicationCode s
  | .wrFDoorEnable v => Sys2Proof.Machine.execWrFDoorEnable v s
  | .rdFDoorEnable => Sys2Proof.Machine.execRdFDoorEnable s
  | .wrFStopZoneLength v => Sys2Proof.Machine.execWrFStopZoneLength v s
  | .rdFStopZoneLength => Sys2Proof.Machine.execRdFStopZoneLength s
  | .wrFStationId v => Sys2Proof.Machine.execWrFStationId v s
  | .rdFStationId => Sys2Proof.Machine.execRdFStationId s
  | .wrFPlatformId v => Sys2Proof.Machine.execWrFPlatformId v s
  | .rdFPlatformId => Sys2Proof.Machine.execRdFPlatformId s
  | .rdEncHi => Sys2Proof.Machine.execRdEncHi s
  | .wrEncHi v => Sys2Proof.Machine.execWrEncHi v s
  | .rdEncLo => Sys2Proof.Machine.execRdEncLo s
  | .wrEncLo v => Sys2Proof.Machine.execWrEncLo v s
  | .rdStatus => Sys2Proof.Machine.execRdStatus s
  | .wrStatus v => Sys2Proof.Machine.execWrStatus v s
  | .rdSentHi => Sys2Proof.Machine.execRdSentHi s
  | .wrSentHi v => Sys2Proof.Machine.execWrSentHi v s
  | .rdSentLo => Sys2Proof.Machine.execRdSentLo s
  | .wrSentLo v => Sys2Proof.Machine.execWrSentLo v s
  | .rdDetail0 => Sys2Proof.Machine.execRdDetail0 s
  | .wrDetail0 v => Sys2Proof.Machine.execWrDetail0 v s
  | .rdDetail1 => Sys2Proof.Machine.execRdDetail1 s
  | .wrDetail1 v => Sys2Proof.Machine.execWrDetail1 v s
  | .rdDetail2 => Sys2Proof.Machine.execRdDetail2 s
  | .wrDetail2 v => Sys2Proof.Machine.execWrDetail2 v s
  | .rdDetail3 => Sys2Proof.Machine.execRdDetail3 s
  | .wrDetail3 v => Sys2Proof.Machine.execWrDetail3 v s
  | .rdDetail4 => Sys2Proof.Machine.execRdDetail4 s
  | .wrDetail4 v => Sys2Proof.Machine.execWrDetail4 v s
  | .rdDetail5 => Sys2Proof.Machine.execRdDetail5 s
  | .wrDetail5 v => Sys2Proof.Machine.execWrDetail5 v s
  | .rdDetail6 => Sys2Proof.Machine.execRdDetail6 s
  | .wrDetail6 v => Sys2Proof.Machine.execWrDetail6 v s
  | .rdDetail7 => Sys2Proof.Machine.execRdDetail7 s
  | .wrDetail7 v => Sys2Proof.Machine.execWrDetail7 v s
  | .rdCtrl => Sys2Proof.Machine.execRdCtrl s
  | .start v => Sys2Proof.Machine.execStart v s
  | .clear v => Sys2Proof.Machine.execClear v s
  | .wrCtrlNoCommand v => Sys2Proof.Machine.execWrCtrlNoCommand v s
  | .unmapped9 write v => Sys2Proof.Machine.execUnmapped9 write v s
  | .unmapped24to31 write low v => Sys2Proof.Machine.execUnmapped24to31 write low v s
  | .arByte b => Sys2Proof.Machine.execArByte b s
  | .arNlMatch => Sys2Proof.Machine.execArNlMatch s
  | .arNlOther => Sys2Proof.Machine.execArNlOther s
  | .arEnd => Sys2Proof.Machine.execArEnd s
  | .sendByte => Sys2Proof.Machine.execSendByte s
  | .sendLast => Sys2Proof.Machine.execSendLast s
  | .echoByte b => Sys2Proof.Machine.execEchoByte b s
  | .echoLast b => Sys2Proof.Machine.execEchoLast b s
  | .echoEnd => Sys2Proof.Machine.execEchoEnd s
  | .verdictProceed => Sys2Proof.Machine.execVerdictProceed s
  | .verdictAbort => Sys2Proof.Machine.execVerdictAbort s
  | .adByte b => Sys2Proof.Machine.execAdByte b s
  | .adNlMatch => Sys2Proof.Machine.execAdNlMatch s
  | .adNlOther => Sys2Proof.Machine.execAdNlOther s
  | .adEnd => Sys2Proof.Machine.execAdEnd s
  | .lineByte b => Sys2Proof.Machine.execLineByte b s
  | .lineReset => Sys2Proof.Machine.execLineReset s
  | .fail r => Sys2Proof.Machine.execFail r s
  | .reset => Sys2Proof.Machine.execReset s
  | .ctrl v => Sys2Proof.Machine.execCtrl v s
  | .status => Sys2Proof.Machine.execStatus s

end Sys2Proof.Machine
end

