-- ==== Sys2Proof/WellFormed.lean ====
section
/-! DEFINITION. Which terms of `Instr` are operations of the table: the conditions that a row's pattern or event
puts on its operand. -/

namespace Sys2Proof

/-- The operand conditions of the rows: START, CLEAR and the commandless write of CTRL are told apart by bits 1:0 of
the written value (R107, R184); AR_BYTE, AD_BYTE and LINEBYTE take a byte other than `NL` (R210, R214, R225); FAIL
takes one of the three failure reasons (R27, R256). Every other operand admits every value of its type. -/
def Instr.wellFormed : Instr → Bool
  | .encode => true
  | .byte0 => true
  | .byte1 => true
  | .byte2 => true
  | .byte3 => true
  | .byte4 => true
  | .byte5 => true
  | .byte6to15 => true
  | .p1 => true
  | .p2 => true
  | .p3 => true
  | .p4 => true
  | .p5 => true
  | .p6 => true
  | .p7 => true
  | .p8 => true
  | .p9 => true
  | .p10 => true
  | .p11 => true
  | .p12 => true
  | .p13 => true
  | .oorFlags => true
  | .decode _ => true
  | .abort => true
  | .proceed => true
  | .litReady => true
  | .litDone => true
  | .nl => true
  | .ws _ => true
  | .wrFBlockId _ => true
  | .rdFBlockId => true
  | .wrFAsdoEnabled _ => true
  | .rdFAsdoEnabled => true
  | .wrFApproachDirection _ => true
  | .rdFApproachDirection => true
  | .wrFVersion _ => true
  | .rdFVersion => true
  | .wrFApplicationCode _ => true
  | .rdFApplicationCode => true
  | .wrFDoorEnable _ => true
  | .rdFDoorEnable => true
  | .wrFStopZoneLength _ => true
  | .rdFStopZoneLength => true
  | .wrFStationId _ => true
  | .rdFStationId => true
  | .wrFPlatformId _ => true
  | .rdFPlatformId => true
  | .rdEncHi => true
  | .wrEncHi _ => true
  | .rdEncLo => true
  | .wrEncLo _ => true
  | .rdStatus => true
  | .wrStatus _ => true
  | .rdSentHi => true
  | .wrSentHi _ => true
  | .rdSentLo => true
  | .wrSentLo _ => true
  | .rdDetail0 => true
  | .wrDetail0 _ => true
  | .rdDetail1 => true
  | .wrDetail1 _ => true
  | .rdDetail2 => true
  | .wrDetail2 _ => true
  | .rdDetail3 => true
  | .wrDetail3 _ => true
  | .rdDetail4 => true
  | .wrDetail4 _ => true
  | .rdDetail5 => true
  | .wrDetail5 _ => true
  | .rdDetail6 => true
  | .wrDetail6 _ => true
  | .rdDetail7 => true
  | .wrDetail7 _ => true
  | .rdCtrl => true
  | .start v => v.getLsbD 0
  | .clear v => (!v.getLsbD 0 && v.getLsbD 1)
  | .wrCtrlNoCommand v => (!v.getLsbD 0 && !v.getLsbD 1)
  | .unmapped9 _ _ => true
  | .unmapped24to31 _ _ _ => true
  | .arByte b => b != Config.nl
  | .arNlMatch => true
  | .arNlOther => true
  | .arEnd => true
  | .sendByte => true
  | .sendLast => true
  | .echoByte _ => true
  | .echoLast _ => true
  | .echoEnd => true
  | .verdictProceed => true
  | .verdictAbort => true
  | .adByte b => b != Config.nl
  | .adNlMatch => true
  | .adNlOther => true
  | .adEnd => true
  | .lineByte b => b != Config.nl
  | .lineReset => true
  | .fail r => r != .none
  | .reset => true
  | .ctrl _ => true
  | .status => true

end Sys2Proof
end

