-- ==== Sys2Proof/Decode.lean ====
section
/-! DEFINITION. From what reaches the device to an operation, and back: the decode of a host transaction (R112, R171),
the transition table (R234), the operations that no port carries, and the bare words of spec/opcode_table.json. -/

namespace Sys2Proof

/-- Why nothing is decoded. -/
inductive DecodeError where
  /-- A channel event in a state for which R234 has no row. -/
  | noTransition
  /-- A bare word that no row of the table has. -/
  | noSuchWord
  /-- A row number that names no operation, or one that a port carries. -/
  | noSuchOp
  /-- An operand that the row does not admit. -/
  | badOperand
deriving DecidableEq, Repr

/-- The result of decoding. -/
inductive Decoded where
  | instr (i : Instr)
  | rejected (e : DecodeError)
deriving DecidableEq, Repr

/-- The instruction decoded, if any. -/
def Decoded.toOption : Decoded → Option Instr
  | .instr i => some i
  | .rejected _ => none

/-! ### Host transactions -/

/-- `h_write`, bit 69 (R112). -/
def HostXn.write (xn : HostXn) : Bool := xn.getLsbD 69

/-- `h_addr`, bits 68:64 (R112). -/
def HostXn.addr (xn : HostXn) : BitVec 5 := xn.extractLsb' 64 5

/-- `h_wdata`, bits 63:0 (R112). -/
def HostXn.wdata (xn : HostXn) : Word := xn.extractLsb' 0 64

/-- The 70-bit transaction `h_write ‖ h_addr ‖ h_wdata` (R112). -/
def hostWord (write : Bool) (addr : BitVec 5) (wdata : Word) : HostXn :=
  BitVec.ofBool write ++ addr ++ wdata

/-- The command that a write of CTRL issues, by bits 1:0 of the value (R184, R193). -/
def decodeCtrl (v : Word) : Instr :=
  if v.getLsbD 0 then .start v else if v.getLsbD 1 then .clear v else .wrCtrlNoCommand v

/-- The operation of a host write of register `addr` (R171, R172). -/
def decodeWrite (addr : BitVec 5) (v : Word) : Instr :=
  match addr.toNat with
  | 0 => .wrFBlockId v
  | 1 => .wrFAsdoEnabled v
  | 2 => .wrFApproachDirection v
  | 3 => .wrFVersion v
  | 4 => .wrFApplicationCode v
  | 5 => .wrFDoorEnable v
  | 6 => .wrFStopZoneLength v
  | 7 => .wrFStationId v
  | 8 => .wrFPlatformId v
  | 9 => .unmapped9 true v
  | 10 => .wrEncHi v
  | 11 => .wrEncLo v
  | 12 => decodeCtrl v
  | 13 => .wrStatus v
  | 14 => .wrSentHi v
  | 15 => .wrSentLo v
  | 16 => .wrDetail0 v
  | 17 => .wrDetail1 v
  | 18 => .wrDetail2 v
  | 19 => .wrDetail3 v
  | 20 => .wrDetail4 v
  | 21 => .wrDetail5 v
  | 22 => .wrDetail6 v
  | 23 => .wrDetail7 v
  | _ => .unmapped24to31 true (addr.extractLsb' 0 3) v

/-- The operation of a host read of register `addr`; `h_wdata` is ignored by every mapped register (R112, R171). -/
def decodeRead (addr : BitVec 5) (v : Word) : Instr :=
  match addr.toNat with
  | 0 => .rdFBlockId
  | 1 => .rdFAsdoEnabled
  | 2 => .rdFApproachDirection
  | 3 => .rdFVersion
  | 4 => .rdFApplicationCode
  | 5 => .rdFDoorEnable
  | 6 => .rdFStopZoneLength
  | 7 => .rdFStationId
  | 8 => .rdFPlatformId
  | 9 => .unmapped9 false v
  | 10 => .rdEncHi
  | 11 => .rdEncLo
  | 12 => .rdCtrl
  | 13 => .rdStatus
  | 14 => .rdSentHi
  | 15 => .rdSentLo
  | 16 => .rdDetail0
  | 17 => .rdDetail1
  | 18 => .rdDetail2
  | 19 => .rdDetail3
  | 20 => .rdDetail4
  | 21 => .rdDetail5
  | 22 => .rdDetail6
  | 23 => .rdDetail7
  | _ => .unmapped24to31 false (addr.extractLsb' 0 3) v

/-- The operation of a host transaction: every one of the 2^70 words is some operation (R170, R171). -/
def decodeHost (xn : HostXn) : Instr :=
  if xn.write then decodeWrite xn.addr xn.wdata else decodeRead xn.addr xn.wdata

/-! ### Channel events: the transition table -/

/-- The transition of `RxByte(b)` (R234). -/
def decodeRxByte (c : ControlPoint) (b : Byte) : Decoded :=
  match c.hsState with
  | .awaitingReady =>
    if b = Config.nl then .instr (if c.lineOk then .arNlMatch else .arNlOther) else .instr (.arByte b)
  | .verifyingEcho =>
    if c.txp then .rejected .noTransition
    else if c.idx < 15 then .instr (.echoByte b)
    else if c.idx = 15 then .instr (.echoLast b)
    else .rejected .noTransition
  | .awaitingDone =>
    if b = Config.nl then .instr (if c.lineOk then .adNlMatch else .adNlOther) else .instr (.adByte b)
  | .idle | .sending | .success | .failed => .rejected .noTransition

/-- The transition of `RxEnd` (R234). -/
def decodeRxEnd (c : ControlPoint) : Decoded :=
  match c.hsState with
  | .awaitingReady => .instr .arEnd
  | .verifyingEcho => if c.txp then .rejected .noTransition else .instr .echoEnd
  | .awaitingDone => .instr .adEnd
  | .idle | .sending | .success | .failed => .rejected .noTransition

/-- The transition of `TxAccept` (R234). -/
def decodeTxAccept (c : ControlPoint) : Decoded :=
  match c.hsState with
  | .sending =>
    if c.idx < 15 then .instr .sendByte
    else if c.idx = 15 then .instr .sendLast
    else .rejected .noTransition
  | .verifyingEcho =>
    if c.txp then .instr (if c.mism then .verdictAbort else .verdictProceed) else .rejected .noTransition
  | .idle | .awaitingReady | .awaitingDone | .success | .failed => .rejected .noTransition

/-! ### Operations that no port carries, and bare words of the table -/

/-- An operation without operand: its data bits are zero. -/
def decodePlain (i : Instr) (data : Block) : Decoded :=
  if data = 0 then .instr i else .rejected .badOperand

/-- An operation whose operand is one byte. -/
def decodeByteOperand (i : Byte → Instr) (data : Block) : Decoded :=
  if data.toNat < 256 then .instr (i (data.setWidth 8)) else .rejected .badOperand

/-- The operation of row `row` of spec/opcode_table.json, for the rows that no port carries (log entry 8). -/
def decodeOp (row : BitVec 8) (data : Block) : Decoded :=
  match row.toNat with
  | 1 => decodePlain .encode data
  | 2 => decodePlain .byte0 data
  | 3 => decodePlain .byte1 data
  | 4 => decodePlain .byte2 data
  | 5 => decodePlain .byte3 data
  | 6 => decodePlain .byte4 data
  | 7 => decodePlain .byte5 data
  | 8 => decodePlain .byte6to15 data
  | 9 => decodePlain .p1 data
  | 10 => decodePlain .p2 data
  | 11 => decodePlain .p3 data
  | 12 => decodePlain .p4 data
  | 13 => decodePlain .p5 data
  | 14 => decodePlain .p6 data
  | 15 => decodePlain .p7 data
  | 16 => decodePlain .p8 data
  | 17 => decodePlain .p9 data
  | 18 => decodePlain .p10 data
  | 19 => decodePlain .p11 data
  | 20 => decodePlain .p12 data
  | 21 => decodePlain .p13 data
  | 22 => decodePlain .oorFlags data
  | 23 => .instr (.decode data)
  | 24 => decodePlain .abort data
  | 25 => decodePlain .proceed data
  | 26 => decodePlain .litReady data
  | 27 => decodePlain .litDone data
  | 28 => decodePlain .nl data
  | 29 => decodeByteOperand .ws data
  | 95 => if data = Config.nl.setWidth 128 then .rejected .badOperand else decodeByteOperand .lineByte data
  | 96 => decodePlain .lineReset data
  | 97 => if data = 1 then .instr (.fail .writerNotDetected)
    else if data = 2 then .instr (.fail .echoMismatch)
    else if data = 3 then .instr (.fail .writeFailed)
    else .rejected .badOperand
  | 99 => if data.toNat < 2 ^ 64 then .instr (.ctrl (data.setWidth 64)) else .rejected .badOperand
  | 100 => decodePlain .status data
  | _ => .rejected .noSuchOp

/-- The rows of the table that are parts of steps and no step label of R8: LINEBYTE, LINE_RESET and FAIL (R209, R210,
R256). The decoder reads their form, so that it agrees with the encoder; no input presents them (log entry 16). -/
def subOperation (row : BitVec 8) : Bool := row == 95 || row == 96 || row == 97

/-- Byte `k` of a word of the table counted from its least significant byte, the first byte of the word. -/
def tableByte (w k : Nat) : Byte := BitVec.ofNat 8 (w >>> (8 * k))

/-- The 8-bit words of the table. A bare byte may be many rows' word; the wire signals come first, being the 8-bit
formats of R90, then the one block byte with a fixed bit, then the first row that has no fixed bit (log entry 7). -/
def tableByteWord (b : Byte) : Instr :=
  if b = Config.abort then .abort
  else if b = Config.proceed then .proceed
  else if b = Config.nl then .nl
  else if b.getLsbD 4 then .byte0
  else .byte5

/-- Bits of the block that no field has: byte 5 bit 4 and bytes 6 to 15 (R91, R160). -/
def blockZeroBits : Block := 0x000000000010FFFFFFFFFFFFFFFFFFFF

/-- The operation that the decoder reads from a bare word of spec/opcode_table.json: 8-bit words by `tableByteWord`;
the host transaction as the number of R112; the block as the number `enc_block` of R91, ENCODE's where the bits that
no field has are zero, and any other sixteen bytes DECODE's operand; a CTRL value; the literals, first byte lowest. -/
def decodeTableWord (nbits w : Nat) : Option Instr :=
  if w ≥ 2 ^ nbits then none
  else if nbits = 8 then some (tableByteWord (BitVec.ofNat 8 w))
  else if nbits = 72 then if w < 2 ^ 70 then some (decodeHost (BitVec.ofNat 70 w)) else none
  else if nbits = 128 then
    some (if BitVec.ofNat 128 w &&& blockZeroBits = 0 then .encode else .decode (BitVec.ofNat 128 w))
  else if nbits = 64 then some (.ctrl (BitVec.ofNat 64 w))
  else if nbits = 96 then if (List.range 12).map (tableByte w) = Config.litReady then some .litReady else none
  else if nbits = 80 then if (List.range 10).map (tableByte w) = Config.litDone then some .litDone else none
  else none

/-- THE DECODER. The operation of an event at a control point: a host transaction by its register number, a channel
event by the transition table, the model's own forms by the table's rows. Total: what it does not read it rejects by
name. -/
def decode (c : ControlPoint) : Event → Decoded
  | .hostXn xn => .instr (decodeHost xn)
  | .rxByte b => decodeRxByte c b
  | .rxEnd => decodeRxEnd c
  | .txAccept => decodeTxAccept c
  | .reset => .instr .reset
  | .word nbits w =>
    match decodeTableWord nbits w with
    | some i => .instr i
    | none => .rejected .noSuchWord
  | .op row data => decodeOp row data

/-! ### The encoder -/

/-- The control point with the given protocol state and everything else at its reset value. -/
def ControlPoint.at (h : HsState) : ControlPoint :=
  { hsState := h, idx := 0, txp := false, mism := false, lineOk := false }

/-- A host operation: the transaction, at any control point (R170: legal in every state). -/
def encodeHost (write : Bool) (addr : BitVec 5) (v : Word) : ControlPoint × Event :=
  (.at .idle, .hostXn (hostWord write addr v))

/-- An operation that no port carries. -/
def encodeOp (row : BitVec 8) (data : Block) : ControlPoint × Event := (.at .idle, .op row data)

/-- THE ENCODER. How an operation reaches the device: the event that carries it and a control point at which that
event is this operation. -/
def encode : Instr → ControlPoint × Event
  | .encode => encodeOp 1 0
  | .byte0 => encodeOp 2 0
  | .byte1 => encodeOp 3 0
  | .byte2 => encodeOp 4 0
  | .byte3 => encodeOp 5 0
  | .byte4 => encodeOp 6 0
  | .byte5 => encodeOp 7 0
  | .byte6to15 => encodeOp 8 0
  | .p1 => encodeOp 9 0
  | .p2 => encodeOp 10 0
  | .p3 => encodeOp 11 0
  | .p4 => encodeOp 12 0
  | .p5 => encodeOp 13 0
  | .p6 => encodeOp 14 0
  | .p7 => encodeOp 15 0
  | .p8 => encodeOp 16 0
  | .p9 => encodeOp 17 0
  | .p10 => encodeOp 18 0
  | .p11 => encodeOp 19 0
  | .p12 => encodeOp 20 0
  | .p13 => encodeOp 21 0
  | .oorFlags => encodeOp 22 0
  | .decode x => encodeOp 23 x
  | .abort => encodeOp 24 0
  | .proceed => encodeOp 25 0
  | .litReady => encodeOp 26 0
  | .litDone => encodeOp 27 0
  | .nl => encodeOp 28 0
  | .ws b => encodeOp 29 (b.setWidth 128)
  | .wrFBlockId v => encodeHost true 0 v
  | .rdFBlockId => encodeHost false 0 0
  | .wrFAsdoEnabled v => encodeHost true 1 v
  | .rdFAsdoEnabled => encodeHost false 1 0
  | .wrFApproachDirection v => encodeHost true 2 v
  | .rdFApproachDirection => encodeHost false 2 0
  | .wrFVersion v => encodeHost true 3 v
  | .rdFVersion => encodeHost false 3 0
  | .wrFApplicationCode v => encodeHost true 4 v
  | .rdFApplicationCode => encodeHost false 4 0
  | .wrFDoorEnable v => encodeHost true 5 v
  | .rdFDoorEnable => encodeHost false 5 0
  | .wrFStopZoneLength v => encodeHost true 6 v
  | .rdFStopZoneLength => encodeHost false 6 0
  | .wrFStationId v => encodeHost true 7 v
  | .rdFStationId => encodeHost false 7 0
  | .wrFPlatformId v => encodeHost true 8 v
  | .rdFPlatformId => encodeHost false 8 0
  | .rdEncHi => encodeHost false 10 0
  | .wrEncHi v => encodeHost true 10 v
  | .rdEncLo => encodeHost false 11 0
  | .wrEncLo v => encodeHost true 11 v
  | .rdStatus => encodeHost false 13 0
  | .wrStatus v => encodeHost true 13 v
  | .rdSentHi => encodeHost false 14 0
  | .wrSentHi v => encodeHost true 14 v
  | .rdSentLo => encodeHost false 15 0
  | .wrSentLo v => encodeHost true 15 v
  | .rdDetail0 => encodeHost false 16 0
  | .wrDetail0 v => encodeHost true 16 v
  | .rdDetail1 => encodeHost false 17 0
  | .wrDetail1 v => encodeHost true 17 v
  | .rdDetail2 => encodeHost false 18 0
  | .wrDetail2 v => encodeHost true 18 v
  | .rdDetail3 => encodeHost false 19 0
  | .wrDetail3 v => encodeHost true 19 v
  | .rdDetail4 => encodeHost false 20 0
  | .wrDetail4 v => encodeHost true 20 v
  | .rdDetail5 => encodeHost false 21 0
  | .wrDetail5 v => encodeHost true 21 v
  | .rdDetail6 => encodeHost false 22 0
  | .wrDetail6 v => encodeHost true 22 v
  | .rdDetail7 => encodeHost false 23 0
  | .wrDetail7 v => encodeHost true 23 v
  | .rdCtrl => encodeHost false 12 0
  | .start v => encodeHost true 12 v
  | .clear v => encodeHost true 12 v
  | .wrCtrlNoCommand v => encodeHost true 12 v
  | .unmapped9 write v => encodeHost write 9 v
  | .unmapped24to31 write low v => encodeHost write (0b11#2 ++ low) v
  | .arByte b => (ControlPoint.at .awaitingReady, .rxByte b)
  | .arNlMatch => ({ ControlPoint.at .awaitingReady with lineOk := true }, .rxByte Config.nl)
  | .arNlOther => (ControlPoint.at .awaitingReady, .rxByte Config.nl)
  | .arEnd => (ControlPoint.at .awaitingReady, .rxEnd)
  | .sendByte => (ControlPoint.at .sending, .txAccept)
  | .sendLast => ({ ControlPoint.at .sending with idx := 15 }, .txAccept)
  | .echoByte b => (ControlPoint.at .verifyingEcho, .rxByte b)
  | .echoLast b => ({ ControlPoint.at .verifyingEcho with idx := 15 }, .rxByte b)
  | .echoEnd => (ControlPoint.at .verifyingEcho, .rxEnd)
  | .verdictProceed => ({ ControlPoint.at .verifyingEcho with txp := true }, .txAccept)
  | .verdictAbort => ({ ControlPoint.at .verifyingEcho with txp := true, mism := true }, .txAccept)
  | .adByte b => (ControlPoint.at .awaitingDone, .rxByte b)
  | .adNlMatch => ({ ControlPoint.at .awaitingDone with lineOk := true }, .rxByte Config.nl)
  | .adNlOther => (ControlPoint.at .awaitingDone, .rxByte Config.nl)
  | .adEnd => (ControlPoint.at .awaitingDone, .rxEnd)
  | .lineByte b => encodeOp 95 (b.setWidth 128)
  | .lineReset => encodeOp 96 0
  | .fail r =>
    encodeOp 97 (match r with | .none => 0 | .writerNotDetected => 1 | .echoMismatch => 2 | .writeFailed => 3)
  | .reset => (.at .idle, .reset)
  | .ctrl v => encodeOp 99 (v.setWidth 128)
  | .status => encodeOp 100 0

end Sys2Proof
end

