-- ==== Sys2Proof/Machine/Fetch.lean ====
section
/-! DEFINITION. How the next event reaches the device: the pending inputs, what each needs to become an event (R202,
R204, R205), the order of the events of one clock cycle (R259), and the script notation of R120 and R121. -/

namespace Sys2Proof.Machine

open Sys2Proof

/-- The control point of a state (R24, R234). -/
def State.controlPoint (s : State) : ControlPoint :=
  { hsState := s.hsState
    idx := s.idx
    txp := s.txp
    mism := s.mism
    lineOk := if s.hsState = .awaitingReady then s.isReadyLine else s.isDoneLine }

/-- The channel step of a cycle, if any, by the outputs at its beginning: `rx_valid` wins over `rx_end`, and
`rx_ready` and `tx_valid` are never both 1 (R202, R205, R259). `rx_valid` needs a byte in the receive stream. -/
def Pins.channelInputs (p : Pins) (s : State) : List Input :=
  if s.rxReady then
    (if p.rxValid && !s.rxStream.isEmpty then [.rxByte] else if p.rxEnd then [.rxEnd] else [])
  else if s.txValid && p.txReady then [.txAccept]
  else []

/-- The host's step of a cycle, if any (R196). -/
def Pins.hostInputs (p : Pins) : List Input := p.host.toList.map .hostXn

/-- The steps of one clock cycle in order: `rst` wins over everything; else the channel step, then the host
transaction (R259). -/
def Pins.inputs (p : Pins) (s : State) : List Input :=
  if p.rst then [.reset] else p.channelInputs s ++ p.hostInputs

/-- The result of taking the next input. -/
inductive Fetched where
  /-- No operation of the device happens: the state after. -/
  | quiet (s : State)
  /-- An event reaches the device, with the input (and the received byte) taken from where it stood. -/
  | event (e : Event) (s : State)
deriving DecidableEq, Repr

/-- Takes the next pending input. `RxByte` takes the first byte of the receive stream, and only while `rx_ready` is 1;
`rx_end` and `tx_ready` have no effect while `rx_ready` or `tx_valid` is 0 and are not remembered (R65, R202). With no
input pending nothing happens. A sub-operation by itself is no step label of R8: asked for, it does not happen (log
entry 16). -/
def fetch (s : State) : Fetched :=
  match s.pending with
  | [] => .quiet s
  | .sent b :: ps => .quiet (((s.setPending ps).setRxStream (s.rxStream ++ [b])).answer .silent)
  | .cycle p :: ps => .quiet ((s.setPending (p.inputs s ++ ps)).answer .silent)
  | .hostXn xn :: ps => .event (.hostXn xn) (s.setPending ps)
  | .rxByte :: ps =>
    match s.rxReady, s.rxStream with
    | true, b :: bs => .event (.rxByte b) ((s.setPending ps).setRxStream bs)
    | _, _ => .quiet ((s.setPending ps).answer .silent)
  | .rxEnd :: ps =>
    if s.rxReady then .event .rxEnd (s.setPending ps) else .quiet ((s.setPending ps).answer .silent)
  | .txAccept :: ps =>
    if s.txValid then .event .txAccept (s.setPending ps) else .quiet ((s.setPending ps).answer .silent)
  | .reset :: ps => .event .reset (s.setPending ps)
  | .word nbits w :: ps => .event (.word nbits w) (s.setPending ps)
  | .op row data :: ps =>
    if subOperation row then .quiet ((s.setPending ps).answer .noStep)
    else .event (.op row data) (s.setPending ps)

/-- What a rejection by the decoder means for the step. -/
def rejected : DecodeError → Result
  | .noTransition => .fault .noTransition
  | .noSuchWord | .noSuchOp | .badOperand => .refused .noSuchOperation

/-! ### Script notation (R120, R121) -/

/-- `WR n, v`. -/
def scriptWr (n : BitVec 5) (v : Word) : List Input := [.hostXn (hostWord true n v)]

/-- `RD n`. -/
def scriptRd (n : BitVec 5) : List Input := [.hostXn (hostWord false n 0)]

/-- `RX bytes`: one `RxByte` per byte, in order. -/
def scriptRx (bs : List Byte) : List Input := bs.flatMap (fun b => [.sent b, .rxByte])

/-- `TX` of `n` bytes: one `TxAccept` per byte. -/
def scriptTx (n : Nat) : List Input := List.replicate n .txAccept

/-- `START`. -/
def scriptStart : List Input := scriptWr 12 1

/-- `CLEAR`. -/
def scriptClear : List Input := scriptWr 12 2

/-- `SETREC`: nine writes, registers 0 to 8 in order. -/
def scriptSetRec (F : Fields) : List Input :=
  scriptWr 0 F.blockId ++ scriptWr 1 F.asdoEnabled ++ scriptWr 2 F.approachDirection ++ scriptWr 3 F.version
    ++ scriptWr 4 F.applicationCode ++ scriptWr 5 F.doorEnable ++ scriptWr 6 F.stopZoneLength
    ++ scriptWr 7 F.stationId ++ scriptWr 8 F.platformId

/-- `RXLINE text`: the text and its terminator. -/
def scriptRxLine (bs : List Byte) : List Input := scriptRx (bs ++ [Config.nl])

/-- `ECHO`: the sixteen bytes `blk[0..15]`. -/
def scriptEcho (blk : Memory) : List Input := scriptRx ((List.range Config.blockBytes).map blk.read)

/-- `TXBLOCK`. -/
def scriptTxBlock : List Input := scriptTx Config.blockBytes

end Sys2Proof.Machine
end

