-- ==== Sys2Proof/Machine/Step.lean ====
section
/-! DEFINITION. One step: take the next input, decode the event it makes at the current control point, run the
operation. -/

namespace Sys2Proof.Machine

open Sys2Proof

/-- Decodes an event at the control point of the state and runs the operation. -/
def runEvent (e : Event) (s : State) : Result :=
  match decode s.controlPoint e with
  | .instr i => exec i s
  | .rejected r => rejected r

/-- One step of the machine: the next pending input takes effect (R8, R76). -/
def step (s : State) : Host.Outcome State Fault Refusal :=
  match fetch s with
  | .quiet s' => .next s'
  | .event e s' => runEvent e s'

/-- The state whose next input is the bare word `w` of `nbits` bits of spec/opcode_table.json (log entries 4, 7). -/
def State.withFetchWord (s : State) (nbits w : Nat) : State := s.setPending (.word nbits w :: s.pending)

end Sys2Proof.Machine
end

