-- ==== Sys2Proof/Safety.lean ====
section
/-! DEFINITION. The terms in which claims speak of runs: which inputs are the device's own, the invariants of the state
(R25 to R34, R264), the state graph (R201), what a session has put on the wire (R231), infinite runs with the fairness of
the channel, and the distance of a session from its end (R235, R266). -/

namespace Sys2Proof.Machine

open Sys2Proof

/-! ### Runs -/

/-- The inputs that the device's environment presents (R7, R8), as against the model's own (log entries 7 and 8). -/
def Input.isDevice : Input → Bool
  | .sent _ | .cycle _ | .hostXn _ | .rxByte | .rxEnd | .txAccept | .reset => true
  | .word _ _ | .op _ _ => false

/-- Every pending input is one that the environment presents. -/
def State.deviceOnly (s : State) : Prop := s.pending.all Input.isDevice = true

/-- Runs events one after another, each at the control point it meets. -/
def runEvents : List Event → State → Result
  | [], s => .next s
  | e :: es, s =>
    match runEvent e s with
    | .next t => runEvents es t
    | .fault r => .fault r
    | .refused r => .refused r

/-- `t` is what the arrival of `bs` leaves (R65, R233): `RxByte` of each byte in turn for as long as the controller
reads, and the bytes that it does not read waiting in the stream. -/
def State.Delivers (s : State) (bs : List Byte) (t : State) : Prop :=
  ∃ (k : Nat) (u : State), k ≤ bs.length ∧ runEvents ((bs.take k).map .rxByte) s = .next u ∧
    (k = bs.length ∨ u.rxReady = false) ∧ t = { u with rxStream := bs.drop k, out := .silent }

/-! ### Infinite runs and the fairness of the channel -/

/-- `s` after the environment has put `ins` behind the inputs that are pending. -/
def State.presented (ins : List Input) (s : State) : State := s.setPending (s.pending ++ ins)

/-- An infinite run on the device's inputs: before its step `n` the environment presents `ins n` (R7, R76). -/
structure Run (ins : Nat → List Input) (r : Nat → State) : Prop where
  device : ∀ n, ((r n).presented (ins n)).deviceOnly
  steps : ∀ n, step ((r n).presented (ins n)) = .next (r (n + 1))

/-- Step `n` of the run performs the event `e` (R8). -/
def Performs (ins : Nat → List Input) (r : Nat → State) (n : Nat) (e : Event) : Prop :=
  ∃ s, fetch ((r n).presented (ins n)) = .event e s

/-- `CH_FAIR` (R266, D21): the hypothesis on the channel that a claim of termination takes; the model does not make it.
A reset ends the wait it interrupts (R282), so it discharges each clause (log entry 23). -/
structure ChFair (ins : Nat → List Input) (r : Nat → State) : Prop where
  /-- Whenever `rx_ready` = 1 the channel eventually performs `RxByte` or `RxEnd`. -/
  reads : ∀ n, (r n).rxReady = true → ∃ m, n ≤ m ∧
    (Performs ins r m .reset ∨ Performs ins r m .rxEnd ∨ ∃ b, Performs ins r m (.rxByte b))
  /-- During a line read it does not deliver bytes for ever without `NL` or `RxEnd`. -/
  lines : ∀ n, (r n).hsState = .awaitingReady ∨ (r n).hsState = .awaitingDone → ∃ m, n ≤ m ∧
    (Performs ins r m .reset ∨ Performs ins r m .rxEnd ∨ Performs ins r m (.rxByte Config.nl))
  /-- Whenever `tx_valid` = 1 the channel eventually performs `TxAccept`. -/
  writes : ∀ n, (r n).txValid = true → ∃ m, n ≤ m ∧ (Performs ins r m .reset ∨ Performs ins r m .txAccept)

/-! ### The bytes of a session -/

/-- The sixteen latched bytes `blk[0..15]` (R28). -/
def State.blkBytes (s : State) : List Byte := (List.range Config.blockBytes).map s.blk.read

/-- What the session of `s` has put on the wire so far (R231). -/
def State.sessionTx (s : State) : List Byte :=
  match s.hsState with
  | .idle | .awaitingReady => []
  | .sending => (List.range s.idx.toNat).map s.blk.read
  | .verifyingEcho => s.blkBytes
  | .awaitingDone | .success => s.blkBytes ++ [Config.proceed]
  | .failed =>
    match s.reason with
    | .none | .writerNotDetected => []
    | .echoMismatch => s.blkBytes ++ [Config.abort]
    | .writeFailed => s.blkBytes ++ [Config.proceed]

/-- The line held equals the literal, by the three conditions of R211. -/
def LineReader.Holds (l : LineReader) (lit : List Byte) : Prop :=
  l.lrOvf = false ∧ l.lrEnd.toNat = lit.length ∧ ∀ j, j < lit.length → l.lrBuf.read j = lit.getD j 0

/-! ### Invariants -/

/-- What the line reader's elements say of each other (R33, R34). -/
structure LineReader.Wf (ws : List Byte) (l : LineReader) : Prop where
  /-- The line buffer is in canonical form. -/
  bufWf : l.lrBuf.wf Config.detailMax
  /-- `lr_end ≤ lr_cnt ≤ 64`. -/
  endLe : l.lrEnd.toNat ≤ l.lrCnt.toNat
  cntLe : l.lrCnt.toNat ≤ Config.detailMax
  /-- Only the first `lr_cnt` bytes are stored. -/
  stored : ∀ j, l.lrCnt.toNat ≤ j → l.lrBuf.read j = 0
  /-- Until the first non-whitespace byte the reader is as after its reset. -/
  lead : l.lrLead = true → l = LineReader.reset
  /-- From then on the stored line begins with a non-whitespace byte, and `lr_end` has moved. -/
  first : l.lrLead = false → 0 < l.lrEnd.toNat ∧ l.lrBuf.read 0 ∉ ws
  /-- `lr_buf[0 .. lr_end-1]` ends with a non-whitespace byte or is empty. -/
  last : 0 < l.lrEnd.toNat → l.lrBuf.read (l.lrEnd.toNat - 1) ∉ ws
  /-- `lr_ovf` is set only while `lr_cnt = 64`. -/
  ovf : l.lrOvf = true → l.lrCnt.toNat = Config.detailMax

/-- What the elements of R20 say of each other in every state that the device's own inputs reach. -/
structure State.Inv (s : State) : Prop where
  /-- The latched block is in canonical form, and its bytes 6 to 15 are zero (R28). -/
  blkWf : s.blk.wf Config.blockBytes
  blkReserved : ∀ k, 6 ≤ k → s.blk.read k = 0
  /-- The line reader (R33, R34). -/
  lrWf : s.lr.Wf s.cfg.ws
  /-- `reason ≠ None` if and only if `hs_state = Failed` (R27). -/
  reasonIff : s.reason ≠ .none ↔ s.hsState = .failed
  /-- `idx` never exceeds 16, and the states of R234's last paragraph are not reached (R29, R234). -/
  idxLe : s.idx.toNat ≤ 16
  sendingIdx : s.hsState = .sending → s.idx.toNat ≤ 15
  echoIdx : s.readingEcho → s.idx.toNat ≤ 15
  txpEcho : s.txp = true → s.hsState = .verifyingEcho
  /-- PROCEED waits only after all sixteen echo bytes (R221, R222). -/
  proceedIdx : s.verdictWaits false → s.idx = 16
  /-- In Idle every element that CLEAR would write already has the cleared value (R192). -/
  idleCleared : s.hsState = .idle →
    s.blk = [] ∧ s.idx = 0 ∧ s.mism = false ∧ s.rxEnded = false ∧ s.lr = LineReader.reset
  /-- Before the echo the session has seen no echo byte and no ended read (R29, R30, R191). -/
  readyFresh : s.hsState = .awaitingReady → s.idx = 0 ∧ s.mism = false ∧ s.rxEnded = false
  sendingMism : s.hsState = .sending → s.mism = false
  doneFresh : s.hsState = .awaitingDone → s.idx = 16 ∧ s.mism = false

/-- What each outcome leaves for the host to read (R264), and, in the states on the way, the verdicts already passed. -/
structure State.OutcomeInv (s : State) : Prop where
  ready : s.hsState = .sending ∨ s.hsState = .verifyingEcho → s.isReadyLine = true
  success : s.hsState = .success → s.mism = false ∧ s.idx = 16 ∧ s.isDoneLine = true
  writerNotDetected : s.reason = .writerNotDetected → s.mism = false ∧ s.idx = 0 ∧ s.isReadyLine = false
  echoMismatch : s.reason = .echoMismatch → s.mism = true ∧ s.idx.toNat ≤ 16 ∧ s.isReadyLine = true
  writeFailed : s.reason = .writeFailed → s.mism = false ∧ s.idx = 16 ∧ s.isDoneLine = false

end Sys2Proof.Machine

namespace Sys2Proof

/-! ### The state graph -/

/-- The edges of R201 that a channel event takes. -/
def HsState.channelEdge : HsState → HsState → Bool
  | .awaitingReady, .sending => true
  | .awaitingReady, .failed => true
  | .sending, .verifyingEcho => true
  | .verifyingEcho, .awaitingDone => true
  | .verifyingEcho, .failed => true
  | .awaitingDone, .success => true
  | .awaitingDone, .failed => true
  | _, _ => false

/-- The edges of R201 that a command takes. -/
def HsState.commandEdge : HsState → HsState → Bool
  | .idle, .awaitingReady => true
  | .success, .awaitingReady => true
  | .failed, .awaitingReady => true
  | .success, .idle => true
  | .failed, .idle => true
  | _, _ => false

/-- The six step labels of R8, as against the model's own forms. -/
def Event.isLabel : Event → Bool
  | .hostXn _ | .rxByte _ | .rxEnd | .txAccept | .reset => true
  | .word _ _ | .op _ _ => false

/-- An event of the channel (R8). -/
def Event.isChannel : Event → Bool
  | .rxByte _ | .rxEnd | .txAccept => true
  | .hostXn _ | .reset | .word _ _ | .op _ _ => false

end Sys2Proof

namespace Sys2Proof.Machine

open Sys2Proof

/-- The distance of a session from its end, in protocol events (R235, R266). -/
def State.distance (s : State) : Nat :=
  match s.hsState with
  | .idle | .success | .failed => 0
  | .awaitingReady => 60
  | .sending => 50 - s.idx.toNat
  | .verifyingEcho => if s.txp then 10 else 30 - s.idx.toNat
  | .awaitingDone => 5

/-- A channel event that the outputs enable (R8, R204, R205). -/
def State.enables (s : State) : Event → Bool
  | .rxByte _ | .rxEnd => s.rxReady
  | .txAccept => s.txValid
  | .hostXn _ | .reset | .word _ _ | .op _ _ => false

/-- A byte of a line that does not end it: the one channel event that leaves a session where it is (R214, R225). -/
def State.lineContinues (s : State) : Event → Bool
  | .rxByte b => (s.hsState == .awaitingReady || s.hsState == .awaitingDone) && b != Config.nl
  | .rxEnd | .txAccept | .hostXn _ | .reset | .word _ _ | .op _ _ => false

/-- The bytes of the block that a field can change (R154). -/
def fieldBytes : Field → List Nat
  | .blockId | .asdoEnabled | .approachDirection => [0]
  | .version => [0, 1]
  | .applicationCode => [1]
  | .doorEnable => [2]
  | .stopZoneLength => [2, 3]
  | .stationId => [3, 4, 5]
  | .platformId => [5]

end Sys2Proof.Machine
end

