-- ==== Sys2Proof/Certificates/Slice0/Obligations.lean ====
section
/-! DEFINITION. The statements for the provers. Each docstring says what the statement formalises. Throughout, what a
step answers stands in the field `out` (log entry 3), and a statement of a next state names every field that
differs, so that it states the frame as well. -/

open Sys2Proof Sys2Proof.Machine

/-- ENCODE answers the block as one stream of fields, most significant bit first (30_encoding.md rules R91, R93,
40_block_encoder.md rules R130, R137, R152). For every state, the operation ENCODE answers a next state that
differs only in the answer, and the answer is the 128-bit block in which the nine masked fields stand one after
another, most significant bit first, with the unused bit of byte 5 and bytes 6 to 15 zero; for both readings of
SID_LO_SHIFT (with 5 the pattern of R93, which the spec marks as its inference from R91). That ENCODE is run as an
operation whose answer stands in out is log entries 3 and 9. -/
def Obligations.EncodeBlockIsFieldStream : Prop :=
  ∀ s : State, exec .encode s = .next { s with out := .block (match s.cfg.sidShift with
    | .five =>
      s.F.blockId.extractLsb' 0 4 ++ s.F.asdoEnabled.extractLsb' 0 1 ++ s.F.approachDirection.extractLsb' 0 2
        ++ s.F.version.extractLsb' 0 2 ++ s.F.applicationCode.extractLsb' 0 7 ++ s.F.doorEnable.extractLsb' 0 2
        ++ s.F.stopZoneLength.extractLsb' 0 10 ++ s.F.stationId.extractLsb' 0 15 ++ 0#1
        ++ s.F.platformId.extractLsb' 0 4 ++ 0#80
    | .four =>
      s.F.blockId.extractLsb' 0 4 ++ s.F.asdoEnabled.extractLsb' 0 1 ++ s.F.approachDirection.extractLsb' 0 2
        ++ s.F.version.extractLsb' 0 2 ++ s.F.applicationCode.extractLsb' 0 7 ++ s.F.doorEnable.extractLsb' 0 2
        ++ s.F.stopZoneLength.extractLsb' 0 10 ++ s.F.stationId.extractLsb' 3 12 ++ 0#1
        ++ s.F.stationId.extractLsb' 0 3 ++ s.F.platformId.extractLsb' 0 4 ++ 0#80) }

/-- BYTE0 to BYTE5 and BYTE6_15 answer the slices of the fields that the layout names (40_block_encoder.md rules R131
to R137, log entries 1, 3 and 9 (the model's evaluations)). For every state, each of the operations BYTE0 to BYTE5
and BYTE6_15 answers a next state that differs only in the answer; byte 0 is bid[3:0], asdo[0], dir[1:0], ver[1];
byte 1 ver[0], app[6:0]; byte 2 door[1:0], szl[9:4]; byte 3 szl[3:0], sid[14:11]; byte 4 sid[10:3]; byte 5
sid[2:0], 0, pid[3:0] (with SID_LO_SHIFT = 4: 0, sid[2:0], pid[3:0]); bytes 6 to 15 are zero. (That these rows are
run as operations whose answer stands in out is log entries 3 and 9; the layout under SID_LO_SHIFT = 4 is the
reading that R136 names, log entry 1.) -/
def Obligations.BlockBytesAreSlices : Prop :=
  ∀ s : State,
    exec .byte0 s = .next { s with out := .byte (s.F.blockId.extractLsb' 0 4 ++ s.F.asdoEnabled.extractLsb' 0 1
      ++ s.F.approachDirection.extractLsb' 0 2 ++ s.F.version.extractLsb' 1 1) } ∧
    exec .byte1 s = .next { s with out := .byte (s.F.version.extractLsb' 0 1 ++ s.F.applicationCode.extractLsb' 0 7) } ∧
    exec .byte2 s = .next { s with out := .byte (s.F.doorEnable.extractLsb' 0 2
      ++ s.F.stopZoneLength.extractLsb' 4 6) } ∧
    exec .byte3 s = .next { s with out := .byte (s.F.stopZoneLength.extractLsb' 0 4
      ++ s.F.stationId.extractLsb' 11 4) } ∧
    exec .byte4 s = .next { s with out := .byte (s.F.stationId.extractLsb' 3 8) } ∧
    exec .byte5 s = .next { s with out := .byte (match s.cfg.sidShift with
      | .five => s.F.stationId.extractLsb' 0 3 ++ 0#1 ++ s.F.platformId.extractLsb' 0 4
      | .four => 0#1 ++ s.F.stationId.extractLsb' 0 3 ++ s.F.platformId.extractLsb' 0 4) } ∧
    exec .byte6to15 s = .next { s with out := .bytes [0, 0, 0, 0, 0, 0, 0, 0, 0, 0] }

/-- P1 to P13 answer the shifted and masked field, which is the field's slice at its place in the byte
(40_block_encoder.md section 3 (R138 to R150), 30_encoding.md rule R92). For every state, each piece operation P1
to P13 answers a next state that differs only in the answer; the answer is the raw field value shifted and masked
as the packing table says, and this equals the piece's slice of the field shifted to its offset in the byte (P12
by SID_LO_SHIFT, log entry 1). (That the pieces are run as operations whose answer stands in out is log entries 3
and 9.) -/
def Obligations.PiecesAreShiftedSlices : Prop :=
  ∀ s : State,
    (exec .p1 s = .next { s with out := .byte (((s.F.blockId <<< 4) &&& 0xF0).setWidth 8) } ∧
      (((s.F.blockId <<< 4) &&& 0xF0).setWidth 8 : Byte) = (s.F.blockId.extractLsb' 0 4).setWidth 8 <<< 4) ∧
    (exec .p2 s = .next { s with out := .byte (((s.F.asdoEnabled <<< 3) &&& 0x08).setWidth 8) } ∧
      (((s.F.asdoEnabled <<< 3) &&& 0x08).setWidth 8 : Byte) = (s.F.asdoEnabled.extractLsb' 0 1).setWidth 8 <<< 3) ∧
    (exec .p3 s = .next { s with out := .byte (((s.F.approachDirection <<< 1) &&& 0x06).setWidth 8) } ∧
      (((s.F.approachDirection <<< 1) &&& 0x06).setWidth 8 : Byte) = (s.F.approachDirection.extractLsb' 0 2).setWidth 8 <<< 1) ∧
    (exec .p4 s = .next { s with out := .byte (((s.F.version >>> 1) &&& 0x01).setWidth 8) } ∧
      (((s.F.version >>> 1) &&& 0x01).setWidth 8 : Byte) = (s.F.version.extractLsb' 1 1).setWidth 8) ∧
    (exec .p5 s = .next { s with out := .byte (((s.F.version <<< 7) &&& 0x80).setWidth 8) } ∧
      (((s.F.version <<< 7) &&& 0x80).setWidth 8 : Byte) = (s.F.version.extractLsb' 0 1).setWidth 8 <<< 7) ∧
    (exec .p6 s = .next { s with out := .byte ((s.F.applicationCode &&& 0x7F).setWidth 8) } ∧
      ((s.F.applicationCode &&& 0x7F).setWidth 8 : Byte) = (s.F.applicationCode.extractLsb' 0 7).setWidth 8) ∧
    (exec .p7 s = .next { s with out := .byte (((s.F.doorEnable <<< 6) &&& 0xC0).setWidth 8) } ∧
      (((s.F.doorEnable <<< 6) &&& 0xC0).setWidth 8 : Byte) = (s.F.doorEnable.extractLsb' 0 2).setWidth 8 <<< 6) ∧
    (exec .p8 s = .next { s with out := .byte (((s.F.stopZoneLength >>> 4) &&& 0x3F).setWidth 8) } ∧
      (((s.F.stopZoneLength >>> 4) &&& 0x3F).setWidth 8 : Byte) = (s.F.stopZoneLength.extractLsb' 4 6).setWidth 8) ∧
    (exec .p9 s = .next { s with out := .byte (((s.F.stopZoneLength <<< 4) &&& 0xF0).setWidth 8) } ∧
      (((s.F.stopZoneLength <<< 4) &&& 0xF0).setWidth 8 : Byte) = (s.F.stopZoneLength.extractLsb' 0 4).setWidth 8 <<< 4) ∧
    (exec .p10 s = .next { s with out := .byte (((s.F.stationId >>> 11) &&& 0x0F).setWidth 8) } ∧
      (((s.F.stationId >>> 11) &&& 0x0F).setWidth 8 : Byte) = (s.F.stationId.extractLsb' 11 4).setWidth 8) ∧
    (exec .p11 s = .next { s with out := .byte (((s.F.stationId >>> 3) &&& 0xFF).setWidth 8) } ∧
      (((s.F.stationId >>> 3) &&& 0xFF).setWidth 8 : Byte) = (s.F.stationId.extractLsb' 3 8).setWidth 8) ∧
    (exec .p12 s = .next { s with out := .byte (((s.F.stationId <<< s.cfg.sidShift.amount) &&& (0x07 <<< s.cfg.sidShift.amount)).setWidth 8) } ∧
      (((s.F.stationId <<< s.cfg.sidShift.amount) &&& (0x07 <<< s.cfg.sidShift.amount)).setWidth 8 : Byte) = (s.F.stationId.extractLsb' 0 3).setWidth 8 <<< s.cfg.sidShift.amount) ∧
    (exec .p13 s = .next { s with out := .byte ((s.F.platformId &&& 0x0F).setWidth 8) } ∧
      ((s.F.platformId &&& 0x0F).setWidth 8 : Byte) = (s.F.platformId.extractLsb' 0 4).setWidth 8)

/-- Every block byte is the OR of the pieces that the packing table puts into it (40_block_encoder.md rule R150 (last
paragraph), 30_encoding.md rule R92). For both readings of SID_LO_SHIFT, every contents of the field registers and
every byte index 0 to 15, the byte that ENCODE's formula gives is the OR of the values of the packing table's
pieces whose byte it is. -/
def Obligations.BytesAreOrOfPieces : Prop :=
  ∀ (sh : SidShift) (F : Fields) (k : Nat), k < 16 →
    encodeByte sh F k = ((pieces sh).filter (fun p => p.byte == k)).foldl (fun a p => a ||| p.value F) 0

/-- The pieces of one byte have disjoint masks, which sum to at most 0xFF (40_block_encoder.md rule R155,
30_encoding.md rule R92). For both readings of SID_LO_SHIFT: two different pieces of the same byte have masks with
no common bit, and for every byte 0 to 5 the masks of its pieces sum to at most 0xFF. -/
def Obligations.PieceMasksAreDisjoint : Prop :=
  ∀ sh : SidShift,
    (pieces sh).Pairwise (fun p q => p.byte = q.byte → p.mask &&& q.mask = 0) ∧
    ∀ k ∈ List.range 6, (((pieces sh).filter (fun p => p.byte == k)).map (fun p => p.mask.toNat)).sum ≤ 0xFF

/-- Two field contents give the same block exactly when all nine masked values are equal (40_block_encoder.md rules
R151, R155, R156). For both readings of SID_LO_SHIFT and any two contents F and G of the field registers,
ENCODE(F) = ENCODE(G) if and only if F[i] and G[i] agree in their low w_i bits for every field i. (The spec marks
the only-if half as its own inference.) -/
def Obligations.EncoderInjectiveOnMaskedValues : Prop :=
  ∀ (sh : SidShift) (F G : Fields),
    encodeBlock sh F = encodeBlock sh G ↔
      ∀ i : Field, (F.get i).toNat % 2 ^ i.width = (G.get i).toNat % 2 ^ i.width

/-- Changing one field changes only the destination bits of its own pieces (R154). For both readings of SID_LO_SHIFT:
if writing field i with any value changes bit j of block byte k, then k is one of the bytes that R154 lists for
field i, and bit j is in the mask of a piece of field i whose byte is k. -/
def Obligations.FieldChangeIsIsolated : Prop :=
  ∀ (sh : SidShift) (F : Fields) (i : Field) (v : Word) (k j : Nat),
    (encodeByte sh (F.set i v) k).getLsbD j ≠ (encodeByte sh F k).getLsbD j →
      k ∈ fieldBytes i ∧ ∃ p ∈ pieces sh, p.field = i ∧ p.byte = k ∧ p.mask.getLsbD j = true

/-- DECODE of an encoded block gives the masked fields, and ENCODE of a decoded canonical block gives the block
(40_block_encoder.md rules R130, R151, R156, R160, R161). For every state, DECODE of its live block answers a next
state whose answer is the nine masked values with canonical true; and for both readings of SID_LO_SHIFT and every
canonical sixteen bytes x, encoding the zero-extended fields that DECODE gives is x again. (R161, which the spec
marks as its inference from R156 and R160. That DECODE is run as an operation is log entry 9; DECODE and canonical
under SID_LO_SHIFT = 4, whose unused bit is bit 7 of byte 5, are log entry 1.) -/
def Obligations.BlockRoundTrip : Prop :=
  (∀ s : State, exec (.decode s.encBlock) s = .next { s with out := .record s.F.masked true }) ∧
  (∀ (sh : SidShift) (x : Block), canonical sh x = true → encodeBlock sh (decodeRecord sh x).extend = x)

/-- OOR_FLAGS answers oor and dir_rsv and changes nothing (40_block_encoder.md rule R159, 10_state.md rule R36). For
every state, OOR_FLAGS answers a next state that differs only in the answer: oor is set exactly when some raw
field value does not fit its width, dir_rsv exactly when the low two bits of the approach register are 0 or 3.
(That the row is run as an operation whose answer stands in out is log entries 3 and 9.) -/
def Obligations.AdvisoryFlagsAreEvaluated : Prop :=
  ∀ s : State, exec .oorFlags s = .next { s with out := (.flags
    (Field.all.any (fun i => decide (2 ^ i.width ≤ (s.F.get i).toNat)))
    (decide (s.F.approachDirection.toNat % 4 = 0 ∨ s.F.approachDirection.toNat % 4 = 3))) }

/-- DECODE reads each field at its place of the block and says whether the block is canonical (40_block_encoder.md
rules R130 to R137, R160, 30_encoding.md rules R91, R95). For every state and every sixteen bytes x (as the number
enc_block), DECODE answers a next state that differs only in the answer: the nine fields are the runs of bits that
R91 gives (with SID_LO_SHIFT = 4, station_id[2:0] one bit lower), and canonical holds exactly when the unused bit
of byte 5 and bytes 6 to 15 are zero. (R160, which the spec marks as its inference from the layout; the device
itself does not decode, log entry 9; the clauses for SID_LO_SHIFT = 4, where R160 as written gives only the
reading 5, are log entry 1.) -/
def Obligations.DecodeReadsFieldsOfBlock : Prop :=
  ∀ (s : State) (x : Block), exec (.decode x) s = .next { s with out := (.record
    { blockId := x.extractLsb' 124 4, asdoEnabled := x.extractLsb' 123 1, approachDirection := x.extractLsb' 121 2,
      version := x.extractLsb' 119 2, applicationCode := x.extractLsb' 112 7, doorEnable := x.extractLsb' 110 2,
      stopZoneLength := x.extractLsb' 100 10,
      stationId := (match s.cfg.sidShift with
        | .five => x.extractLsb' 85 15
        | .four => x.extractLsb' 88 12 ++ x.extractLsb' 84 3),
      platformId := x.extractLsb' 80 4 }
    (decide (x.extractLsb' 0 80 = 0) && (match s.cfg.sidShift with
      | .five => !x.getLsbD 84
      | .four => !x.getLsbD 87))) }

/-- A host write of a field register stores all 64 bits, answers err 0 and changes nothing else (41_host_interface.md
section 2 (R173 to R181), 10_state.md rules R21, R23). In every state, each of the nine field register writes
answers a next state in which that register holds the written 64-bit value, the host answer is (0, err 0), and
every other element of the state is unchanged. -/
def Obligations.FieldWritesStoreAllBits : Prop :=
  ∀ (v : Word) (s : State),
    exec (.wrFBlockId v) s = .next { s with F := { s.F with blockId := v }, out := .host 0 false } ∧
    exec (.wrFAsdoEnabled v) s = .next { s with F := { s.F with asdoEnabled := v }, out := .host 0 false } ∧
    exec (.wrFApproachDirection v) s = .next { s with F := { s.F with approachDirection := v }, out := .host 0 false } ∧
    exec (.wrFVersion v) s = .next { s with F := { s.F with version := v }, out := .host 0 false } ∧
    exec (.wrFApplicationCode v) s = .next { s with F := { s.F with applicationCode := v }, out := .host 0 false } ∧
    exec (.wrFDoorEnable v) s = .next { s with F := { s.F with doorEnable := v }, out := .host 0 false } ∧
    exec (.wrFStopZoneLength v) s = .next { s with F := { s.F with stopZoneLength := v }, out := .host 0 false } ∧
    exec (.wrFStationId v) s = .next { s with F := { s.F with stationId := v }, out := .host 0 false } ∧
    exec (.wrFPlatformId v) s = .next { s with F := { s.F with platformId := v }, out := .host 0 false }

/-- A host read of a field register returns all 64 bits as last written, a read of CTRL returns 0, and neither changes
the state (41_host_interface.md rules R170, R173 to R181 (the reads), R185). In every state, each of the nine
field register reads answers a next state that differs only in the host answer, (F[i], err 0); the read of CTRL
answers (0, err 0) in every state. -/
def Obligations.FieldAndCtrlReadsChangeNothing : Prop :=
  ∀ s : State,
    exec .rdFBlockId s = .next { s with out := .host s.F.blockId false } ∧
    exec .rdFAsdoEnabled s = .next { s with out := .host s.F.asdoEnabled false } ∧
    exec .rdFApproachDirection s = .next { s with out := .host s.F.approachDirection false } ∧
    exec .rdFVersion s = .next { s with out := .host s.F.version false } ∧
    exec .rdFApplicationCode s = .next { s with out := .host s.F.applicationCode false } ∧
    exec .rdFDoorEnable s = .next { s with out := .host s.F.doorEnable false } ∧
    exec .rdFStopZoneLength s = .next { s with out := .host s.F.stopZoneLength false } ∧
    exec .rdFStationId s = .next { s with out := .host s.F.stationId false } ∧
    exec .rdFPlatformId s = .next { s with out := .host s.F.platformId false } ∧
    exec .rdCtrl s = .next { s with out := .host 0 false }

/-- Through the host port, a field write is seen by the later read of that register and of no other (20_memory.md rule
R76 (a), 41_host_interface.md rules R170, R171 and section 2). For any two field register numbers n and m below 9,
any value v and any state: the transaction that writes v to register n answers a next state, and the transaction
that reads register m in it changes only the host answer, which is v if m = n and otherwise what F[m] held before
the write; both with err 0. -/
def Obligations.FieldWriteIsSeenByLaterReads : Prop :=
  ∀ (n m : Nat) (v : Word) (s : State), n < 9 → m < 9 →
    ∃ t, runEvent (.hostXn (hostWord true (BitVec.ofNat 5 n) v)) s = .next t ∧
      runEvent (.hostXn (hostWord false (BitVec.ofNat 5 m) 0)) t =
        .next { t with out := .host (if m = n then v else s.F.get (Field.all.getD m .blockId)) false }

/-- ENC_HI, ENC_LO, SENT_HI and SENT_LO show the live and the latched block bytes, lower-numbered byte more
significant (30_encoding.md rule R109, 20_memory.md rule R70, 41_host_interface.md rules R182, R183, R187, R188).
In every state the four block register reads answer a next state that differs only in the host answer, with err 0;
byte k of the HI registers (bits 63-8k to 56-8k) is block byte k, live for ENC_HI and latched for SENT_HI, and
byte k of SENT_LO is latched byte 8+k; ENC_LO reads 0; SENT_LO reads 0 where the latched bytes 6 to 15 are zero,
which StepKeepsInvariant keeps. -/
def Obligations.BlockRegistersShowBytesInOrder : Prop :=
  ∀ s : State, ∃ eh el sh sl : Word,
    exec .rdEncHi s = .next { s with out := .host eh false } ∧
    exec .rdEncLo s = .next { s with out := .host el false } ∧
    exec .rdSentHi s = .next { s with out := .host sh false } ∧
    exec .rdSentLo s = .next { s with out := .host sl false } ∧
    (∀ k, k < 8 → eh.extractLsb' (56 - 8 * k) 8 = encodeByte s.cfg.sidShift s.F k ∧
      sh.extractLsb' (56 - 8 * k) 8 = s.blk.read k ∧ sl.extractLsb' (56 - 8 * k) 8 = s.blk.read (8 + k)) ∧
    el = 0 ∧ ((∀ k, 6 ≤ k → s.blk.read k = 0) → sl = 0)

/-- DETAIL0 to DETAIL7 show the line buffer below lr_end and zero from there on (R110). In every state the eight
detail register reads answer a next state that differs only in the host answer, with err 0; byte j of DETAILk is
lr_buf[8k+j] if 8k+j < lr_end and 0x00 otherwise. -/
def Obligations.DetailRegistersShowTrimmedLine : Prop :=
  ∀ s : State, ∃ d : Nat → Word,
    exec .rdDetail0 s = .next { s with out := .host (d 0) false } ∧
    exec .rdDetail1 s = .next { s with out := .host (d 1) false } ∧
    exec .rdDetail2 s = .next { s with out := .host (d 2) false } ∧
    exec .rdDetail3 s = .next { s with out := .host (d 3) false } ∧
    exec .rdDetail4 s = .next { s with out := .host (d 4) false } ∧
    exec .rdDetail5 s = .next { s with out := .host (d 5) false } ∧
    exec .rdDetail6 s = .next { s with out := .host (d 6) false } ∧
    exec .rdDetail7 s = .next { s with out := .host (d 7) false } ∧
    ∀ k j, k < 8 → j < 8 → (d k).extractLsb' (56 - 8 * j) 8 =
      if 8 * k + j < s.lr.lrEnd.toNat then s.lr.lrBuf.read (8 * k + j) else 0

/-- STATUS shows every field at its bits, reserved bits are 0, and reading it clears nothing (30_encoding.md rules
R108, R116, 41_host_interface.md rule R186). In every state the read of STATUS and the evaluation of its format
answer a next state that differs only in the answer, the same word for both; bits 2:0 are the code of hs_state, 3
busy, 4 done, 6:5 the code of reason, 7 oor, 8 dir_rsv, 9 lr_ovf, 10 rx_ended, 11 mism, 15:12 zero, 23:16 lr_end
zero-extended, 28:24 idx, 63:29 zero. (That the row STATUS is run as an evaluation is log entry 15.) -/
def Obligations.StatusWordShowsEveryField : Prop :=
  ∀ s : State, ∃ w : Word,
    exec .rdStatus s = .next { s with out := .host w false } ∧
    exec .status s = .next { s with out := .word w } ∧
    w.extractLsb' 0 3 = (match s.hsState with
      | .idle => 0 | .awaitingReady => 1 | .sending => 2 | .verifyingEcho => 3 | .awaitingDone => 4
      | .success => 5 | .failed => 6) ∧
    w.getLsbD 3 = decide (s.hsState = .awaitingReady ∨ s.hsState = .sending ∨ s.hsState = .verifyingEcho ∨
      s.hsState = .awaitingDone) ∧
    w.getLsbD 4 = decide (s.hsState = .success ∨ s.hsState = .failed) ∧
    w.extractLsb' 5 2 = (match s.reason with
      | .none => 0 | .writerNotDetected => 1 | .echoMismatch => 2 | .writeFailed => 3) ∧
    w.getLsbD 7 = s.F.oor ∧ w.getLsbD 8 = s.F.dirRsv ∧ w.getLsbD 9 = s.lr.lrOvf ∧ w.getLsbD 10 = s.rxEnded ∧
    w.getLsbD 11 = s.mism ∧ w.extractLsb' 12 4 = 0 ∧ w.extractLsb' 16 8 = s.lr.lrEnd.setWidth 8 ∧
    w.extractLsb' 24 5 = s.idx ∧ w.extractLsb' 29 35 = 0

/-- A write of a read-only register, and any access to an unmapped number, answers err 1 and data 0 and changes no
state (41_host_interface.md rules R172, R182, R183, R186 to R190, 60_exceptions.md rule R257). In every state, the
writes of the thirteen read-only registers and the reads and writes of registers 9 and 24 to 31 answer a next
state that differs only in the host answer, (0, err 1). -/
def Obligations.ReadOnlyWritesAndUnmappedAccessesRaiseBusError : Prop :=
  ∀ (v : Word) (w : Bool) (low : BitVec 3) (s : State),
    exec (.wrEncHi v) s = .next { s with out := .host 0 true } ∧
    exec (.wrEncLo v) s = .next { s with out := .host 0 true } ∧
    exec (.wrStatus v) s = .next { s with out := .host 0 true } ∧
    exec (.wrSentHi v) s = .next { s with out := .host 0 true } ∧
    exec (.wrSentLo v) s = .next { s with out := .host 0 true } ∧
    exec (.wrDetail0 v) s = .next { s with out := .host 0 true } ∧
    exec (.wrDetail1 v) s = .next { s with out := .host 0 true } ∧
    exec (.wrDetail2 v) s = .next { s with out := .host 0 true } ∧
    exec (.wrDetail3 v) s = .next { s with out := .host 0 true } ∧
    exec (.wrDetail4 v) s = .next { s with out := .host 0 true } ∧
    exec (.wrDetail5 v) s = .next { s with out := .host 0 true } ∧
    exec (.wrDetail6 v) s = .next { s with out := .host 0 true } ∧
    exec (.wrDetail7 v) s = .next { s with out := .host 0 true } ∧
    exec (.unmapped9 w v) s = .next { s with out := .host 0 true } ∧
    exec (.unmapped24to31 w low v) s = .next { s with out := .host 0 true }

/-- Every 70-bit host transaction completes; reads change no state; err is exactly the BusError condition, and then no
state changes (41_host_interface.md rules R170, R172, R196 (every transaction completes)). For every 70-bit
transaction and every state: the event answers a next state with a host answer (d, err); a read changes nothing
but the answer; a write answers data 0; err is 1 exactly when the number is unmapped (9, 24 to 31) or the access
writes a read-only register (10, 11, 13 to 23); and with err 1 the data is 0 and nothing but the answer changes. -/
def Obligations.HostTransactionsAlwaysComplete : Prop :=
  ∀ (xn : HostXn) (s : State), ∃ t d err,
    runEvent (.hostXn xn) s = .next t ∧ t.out = .host d err ∧
    (HostXn.write xn = false → t = { s with out := .host d err }) ∧
    (HostXn.write xn = true → d = 0) ∧
    (err = true ↔ ((HostXn.addr xn).toNat = 9 ∨ 24 ≤ (HostXn.addr xn).toNat) ∨
      (HostXn.write xn = true ∧ ((HostXn.addr xn).toNat = 10 ∨ (HostXn.addr xn).toNat = 11 ∨
        (13 ≤ (HostXn.addr xn).toNat ∧ (HostXn.addr xn).toNat ≤ 23)))) ∧
    (err = true → d = 0 ∧ t = { s with out := .host 0 true })

/-- START accepted in Idle, Success or Failed latches ENCODE(F) and begins a session with every session element
cleared (41_host_interface.md rule R191, 42_handshake.md rule R209). In Idle, Success and Failed, START answers a
next state in which blk holds the sixteen bytes of ENCODE(F), hs_state is AwaitingReady, reason is None, idx,
mism, txp and rx_ended are 0 and the line reader is reset; F, the streams and everything else are unchanged; the
host answer is (0, err 0). -/
def Obligations.StartBeginsSession : Prop :=
  ∀ (v : Word) (s : State), s.hsState = .idle ∨ s.hsState = .success ∨ s.hsState = .failed →
    exec (.start v) s = .next { s with
        blk := Memory.ofBytes 0 (encodeBytes s.cfg.sidShift s.F), hsState := .awaitingReady,
        reason := .none, idx := 0, mism := false, txp := false, rxEnded := false,
        lr := { lrBuf := [], lrCnt := 0, lrEnd := 0, lrLead := true, lrOvf := false }, out := .host 0 false }

/-- START latches all sixteen live bytes in the one step in which it is accepted (20_memory.md rule R73,
41_host_interface.md rule R191). Where START is accepted, the next state's latched block reads, at every index,
the live block byte of the state before (0x00 beyond index 15), and the latched block is in canonical form. (That
the bytes are a list in canonical form is the model's, log entry 13.) -/
def Obligations.StartLatchesLiveBlock : Prop :=
  ∀ (v : Word) (s : State), s.hsState = .idle ∨ s.hsState = .success ∨ s.hsState = .failed →
    ∃ t, exec (.start v) s = .next t ∧ t.blk.wf 16 ∧ t.hsState = .awaitingReady ∧
      ∀ k, t.blk.read k = encodeByte s.cfg.sidShift s.F k

/-- CLEAR accepted in Success or Failed returns to Idle with every session element cleared and F kept
(41_host_interface.md rule R192, 60_exceptions.md rule R260). In Success and Failed, CLEAR answers a next state in
which hs_state is Idle, reason None, blk all zero, idx, mism, txp, rx_ended 0 and the line reader reset; F, the
streams and everything else are unchanged; the host answer is (0, err 0). -/
def Obligations.ClearReturnsToIdle : Prop :=
  ∀ (v : Word) (s : State), s.hsState = .success ∨ s.hsState = .failed →
    exec (.clear v) s = .next { s with
        blk := [], hsState := .idle,
        reason := .none, idx := 0, mism := false, txp := false, rxEnded := false,
        lr := { lrBuf := [], lrCnt := 0, lrEnd := 0, lrLead := true, lrOvf := false }, out := .host 0 false }

/-- START while busy, and CLEAR while busy or Idle, change no state and answer err 0 (R194). START in a busy state and
CLEAR in a busy state or in Idle answer a next state that differs only in the host answer, (0, err 0). -/
def Obligations.CommandsNotAcceptedChangeNothing : Prop :=
  ∀ (v : Word) (s : State),
    (s.hsState = .awaitingReady ∨ s.hsState = .sending ∨ s.hsState = .verifyingEcho ∨ s.hsState = .awaitingDone →
      exec (.start v) s = .next { s with out := .host 0 false } ∧
      exec (.clear v) s = .next { s with out := .host 0 false }) ∧
    (s.hsState = .idle → exec (.clear v) s = .next { s with out := .host 0 false })

/-- A write of CTRL is START if bit 0 is set, else CLEAR if bit 1 is set, else nothing; reserved bits are ignored
(41_host_interface.md rules R184, R191 to R194, 30_encoding.md rule R107). For every value and state, a write of
CTRL completes; with bit 0 set it is START whatever bit 1 is; with bits 1:0 = 10b it is CLEAR; with both clear, as
a commandless write, it changes only the host answer to (0, err 0). In a terminal state the write with both bits
set gives the state that CLEAR followed by START gives. (That the row CTRL is run as a host write of register 12
is log entry 15.) -/
def Obligations.CtrlWriteSelectsCommand : Prop :=
  ∀ (v w : Word) (s : State),
    (∃ t, exec (.ctrl v) s = .next t ∧ t.out = .host 0 false) ∧
    runEvent (.hostXn (hostWord true 12 v)) s = exec (.ctrl v) s ∧
    (v.getLsbD 0 = true → exec (.ctrl v) s = exec (.start w) s) ∧
    (v.getLsbD 0 = false → v.getLsbD 1 = true → exec (.ctrl v) s = exec (.clear w) s) ∧
    (v.getLsbD 0 = false → v.getLsbD 1 = false → exec (.ctrl v) s = .next { s with out := .host 0 false }) ∧
    exec (.wrCtrlNoCommand v) s = .next { s with out := .host 0 false } ∧
    (v.getLsbD 0 = true → v.getLsbD 1 = true → s.hsState = .success ∨ s.hsState = .failed →
      ∃ t, exec (.clear w) s = .next t ∧ exec (.ctrl v) s = exec (.start w) t)

/-- No operation but a host write of a field register, or reset, changes a field register (10_state.md rule R23,
20_memory.md rule R75). For every operation and state: if it answers a next state whose field registers differ
from before, it is one of the nine field register writes, or reset. -/
def Obligations.FieldsChangeOnlyByFieldWriteOrReset : Prop :=
  ∀ (i : Instr) (s t : State), exec i s = .next t → t.F ≠ s.F →
    i = .reset ∨ ∃ v : Word, i = .wrFBlockId v ∨ i = .wrFAsdoEnabled v ∨ i = .wrFApproachDirection v ∨ i = .wrFVersion v ∨ i = .wrFApplicationCode v ∨ i = .wrFDoorEnable v ∨ i = .wrFStopZoneLength v ∨ i = .wrFStationId v ∨ i = .wrFPlatformId v

/-- The latched block changes only by a command that is not refused for being busy, or by reset (10_state.md rule R28,
70_reset_and_hazards.md rule R284). For every operation and state: if it answers a next state whose latched block
differs from before, it is reset, or the session was not busy and it is START, CLEAR or a write of CTRL; so a busy
session keeps the block it was started with whatever the host writes. -/
def Obligations.LatchedBlockChangesOnlyByCommandOrReset : Prop :=
  ∀ (i : Instr) (s t : State), exec i s = .next t → t.blk ≠ s.blk →
    i = .reset ∨ (s.busy = false ∧ ∃ v : Word, i = .start v ∨ i = .clear v ∨ i = .ctrl v)

/-- In Success and Failed the outcome stays as it is until CLEAR, START or reset (20_memory.md rule R76 (d),
42_handshake.md rules R229, R230, 70_reset_and_hazards.md rule R294). In Success and Failed, every operation but
START, CLEAR, a write of CTRL, reset and the stand-alone line reader reset leaves hs_state, reason, blk, idx,
mism, txp, rx_ended, the line reader and the transmit stream unchanged when it answers a next state. (LINE_RESET
by itself is no event of R8, and no step runs it so: log entry 16.) -/
def Obligations.OutcomeIsStableUntilCommand : Prop :=
  ∀ (i : Instr) (s t : State), s.hsState = .success ∨ s.hsState = .failed → exec i s = .next t →
    (∀ v : Word, i ≠ .start v ∧ i ≠ .clear v ∧ i ≠ .ctrl v) → i ≠ .reset → i ≠ .lineReset →
    t.hsState = s.hsState ∧ t.reason = s.reason ∧ t.blk = s.blk ∧ t.idx = s.idx ∧ t.mism = s.mism ∧
      t.txp = s.txp ∧ t.rxEnded = s.rxEnded ∧ t.lr = s.lr ∧ t.txStream = s.txStream

/-- AR_BYTE, AD_BYTE and LINEBYTE skip leading whitespace, store a byte while there is room, and note an overflow
(42_handshake.md rules R210, R214, R225). For a byte other than NL: AR_BYTE in AwaitingReady, AD_BYTE in
AwaitingDone and LINEBYTE in either answer a next state in which only the line reader (and the answer) changes:
unchanged for leading whitespace; else with room the byte is stored at lr_cnt, lr_cnt grows by one, lr_end becomes
the new lr_cnt for a non-whitespace byte, lr_lead is cleared; else lr_lead is cleared and lr_ovf is set for a non-
whitespace byte. (LINEBYTE by itself is no event of R8: log entry 16.) -/
def Obligations.LineBytesUpdateTheLineReader : Prop :=
  ∀ (b : Byte) (s : State), b ≠ Config.nl → ∃ l : LineReader,
    (s.hsState = .awaitingReady → exec (.arByte b) s = .next { s with lr := l, out := .silent }) ∧
    (s.hsState = .awaitingDone → exec (.adByte b) s = .next { s with lr := l, out := .silent }) ∧
    (s.hsState = .awaitingReady ∨ s.hsState = .awaitingDone →
      exec (.lineByte b) s = .next { s with lr := l, out := .silent }) ∧
    (s.lr.lrLead = true → b ∈ s.cfg.ws → l = s.lr) ∧
    (s.lr.lrLead = false ∨ b ∉ s.cfg.ws → s.lr.lrCnt.toNat < 64 →
      l = { lrBuf := s.lr.lrBuf.write s.lr.lrCnt.toNat b, lrCnt := s.lr.lrCnt + 1,
            lrEnd := if b ∈ s.cfg.ws then s.lr.lrEnd else s.lr.lrCnt + 1, lrLead := false,
            lrOvf := s.lr.lrOvf }) ∧
    (s.lr.lrLead = false ∨ b ∉ s.cfg.ws → 64 ≤ s.lr.lrCnt.toNat →
      l = { s.lr with lrLead := false, lrOvf := if b ∈ s.cfg.ws then s.lr.lrOvf else true })

/-- AR_NL_MATCH goes to Sending with idx 0, AD_NL_MATCH to Success, and nothing else changes (42_handshake.md rules
R211, R215, R226). Where the line held is WRITER READY in AwaitingReady, AR_NL_MATCH answers the state with
hs_state Sending and idx 0; where it is WRITE DONE in AwaitingDone, AD_NL_MATCH answers the state with hs_state
Success; everything else, the line reader included, is unchanged. The line held is judged by the three conditions
of R211. -/
def Obligations.LiteralLinesAdvance : Prop :=
  ∀ s : State,
    (s.hsState = .awaitingReady → s.lr.Holds Config.litReady →
      exec .arNlMatch s = .next { s with hsState := .sending, idx := 0, out := .silent }) ∧
    (s.hsState = .awaitingDone → s.lr.Holds Config.litDone →
      exec .adNlMatch s = .next { s with hsState := .success, out := .silent })

/-- AR_NL_OTHER fails with WriterNotDetected, AD_NL_OTHER with WriteFailed, and nothing but reason and hs_state is
written (42_handshake.md rules R211, R216, R227, 60_exceptions.md rule R256). Where the line held is anything but
WRITER READY in AwaitingReady, AR_NL_OTHER answers the state with reason WriterNotDetected and hs_state Failed;
where it is anything but WRITE DONE in AwaitingDone, AD_NL_OTHER answers the state with reason WriteFailed and
hs_state Failed; everything else, the detail included, is unchanged. -/
def Obligations.OtherLinesFail : Prop :=
  ∀ s : State,
    (s.hsState = .awaitingReady → ¬s.lr.Holds Config.litReady →
      exec .arNlOther s = .next { s with reason := .writerNotDetected, hsState := .failed, out := .silent }) ∧
    (s.hsState = .awaitingDone → ¬s.lr.Holds Config.litDone →
      exec .adNlOther s = .next { s with reason := .writeFailed, hsState := .failed, out := .silent })

/-- AR_END and AD_END set rx_ended and judge what has been received as the whole line (42_handshake.md rules R217,
R228). In AwaitingReady AR_END, and in AwaitingDone AD_END, set rx_ended; if the line held is the literal they go
to Sending with idx 0, or to Success; otherwise to Failed with WriterNotDetected, or WriteFailed; nothing else
changes. -/
def Obligations.EndedLinesAreJudged : Prop :=
  ∀ s : State,
    (s.hsState = .awaitingReady → s.lr.Holds Config.litReady →
      exec .arEnd s = .next { s with rxEnded := true, hsState := .sending, idx := 0, out := .silent }) ∧
    (s.hsState = .awaitingReady → ¬s.lr.Holds Config.litReady →
      exec .arEnd s = .next
        { s with rxEnded := true, reason := .writerNotDetected, hsState := .failed, out := .silent }) ∧
    (s.hsState = .awaitingDone → s.lr.Holds Config.litDone →
      exec .adEnd s = .next { s with rxEnded := true, hsState := .success, out := .silent }) ∧
    (s.hsState = .awaitingDone → ¬s.lr.Holds Config.litDone →
      exec .adEnd s = .next { s with rxEnded := true, reason := .writeFailed, hsState := .failed, out := .silent })

/-- SEND_BYTE appends blk[idx] to the transmit stream and counts it; SEND_LAST appends blk[15] and enters
VerifyingEcho (42_handshake.md rules R218, R219). In Sending with idx < 15, SEND_BYTE answers the state with
blk[idx] appended to the transmit stream and idx one more; with idx = 15, SEND_LAST answers the state with blk[15]
appended, hs_state VerifyingEcho, idx, mism and txp 0; nothing else changes. -/
def Obligations.BlockBytesAreTransmitted : Prop :=
  ∀ s : State, s.hsState = .sending →
    (s.idx.toNat < 15 → exec .sendByte s = .next
      { s with txStream := s.txStream ++ [s.blk.read s.idx.toNat], idx := s.idx + 1, out := .silent }) ∧
    (s.idx.toNat = 15 → exec .sendLast s = .next
      { s with txStream := s.txStream ++ [s.blk.read 15], hsState := .verifyingEcho, idx := 0, mism := false,
               txp := false, out := .silent })

/-- ECHO_BYTE and ECHO_LAST compare with blk[idx] and count, ECHO_LAST and ECHO_END raise txp, and mism is sticky
(42_handshake.md rules R220, R221, R222). In VerifyingEcho with txp = 0: with idx < 15 ECHO_BYTE sets mism if the
byte differs from blk[idx], keeps it otherwise, and counts the byte; with idx = 15 ECHO_LAST does so against
blk[15], sets idx to 16 and txp; ECHO_END sets mism, rx_ended and txp and keeps idx; nothing else changes. -/
def Obligations.EchoBytesAreCompared : Prop :=
  ∀ (b : Byte) (s : State), s.hsState = .verifyingEcho → s.txp = false →
    (s.idx.toNat < 15 → exec (.echoByte b) s = .next
      { s with mism := if b = s.blk.read s.idx.toNat then s.mism else true, idx := s.idx + 1, out := .silent }) ∧
    (s.idx.toNat = 15 → exec (.echoLast b) s = .next
      { s with mism := if b = s.blk.read 15 then s.mism else true, idx := 16, txp := true, out := .silent }) ∧
    exec .echoEnd s = .next { s with mism := true, rxEnded := true, txp := true, out := .silent }

/-- The verdict byte is 0x40 and AwaitingDone after a match, 0x00 and Failed(EchoMismatch) after a mismatch
(42_handshake.md rules R223, R224, 30_encoding.md rules R100, R101). In VerifyingEcho with txp = 1: with mism = 0,
VERDICT_PROCEED, and the signal PROCEED, append 0x40 to the transmit stream, clear txp, enter AwaitingDone and
reset the line reader; with mism = 1, VERDICT_ABORT, and the signal ABORT, append 0x00, clear txp and fail with
EchoMismatch; nothing else changes. (That the table's SIGNAL rows act as these transitions is the model's reading,
log entry 6.) -/
def Obligations.VerdictByteIsTransmitted : Prop :=
  ∀ s : State, s.hsState = .verifyingEcho → s.txp = true →
    (s.mism = false →
      exec .verdictProceed s = .next
        { s with txStream := s.txStream ++ [0x40], txp := false, hsState := .awaitingDone, lr := LineReader.reset,
                 out := .silent } ∧
      exec .proceed s = exec .verdictProceed s) ∧
    (s.mism = true →
      exec .verdictAbort s = .next
        { s with txStream := s.txStream ++ [0x00], txp := false, reason := .echoMismatch, hsState := .failed,
                 out := .silent } ∧
      exec .abort s = exec .verdictAbort s)

/-- LINE_RESET writes the five line reader elements, FAIL writes reason and hs_state, and nothing else
(42_handshake.md rule R209, 60_exceptions.md rule R256). In every state LINE_RESET answers the state with an all-
zero line buffer, lr_cnt, lr_end, lr_ovf 0 and lr_lead 1. In a busy state FAIL with one of the three reasons
answers the state with that reason and hs_state Failed. Nothing else changes. (Either by itself is no event of R8,
and no step runs it so: log entry 16.) -/
def Obligations.LineResetAndFailWriteOnlyTheirElements : Prop :=
  ∀ (r : Reason) (s : State),
    exec .lineReset s = .next { s with
      lr := { lrBuf := [], lrCnt := 0, lrEnd := 0, lrLead := true, lrOvf := false }, out := .silent } ∧
    (s.busy = true → r ≠ .none →
      exec (.fail r) s = .next { s with reason := r, hsState := .failed, out := .silent })

/-- RESET is enabled in every state, sets every state element to its reset value and leaves the channel's streams
alone (70_reset_and_hazards.md rules R280, R281, 10_state.md rule R41). In every state RESET answers the state
whose every element of R20 has the value it has in the reset state; the configuration, the receive stream, the
transmit stream and the pending inputs are unchanged. (The configuration and the pending inputs are fields of the
model's own, log entries 1, 2 and 4; the answer is that of the reset state, log entry 3.) -/
def Obligations.ResetRestoresEveryElement : Prop :=
  ∀ s : State, exec .reset s = .next { State.reset with
    cfg := s.cfg, rxStream := s.rxStream, txStream := s.txStream, pending := s.pending }

/-- The reset state has the values of R41, for the elements and for the derived values (R41). In the reset state every
element of R20 is 0, except lr_lead = 1 (hs_state Idle, reason None), busy, done, irq, ch_active, rx_ready,
tx_valid, oor are 0, dir_rsv is 1, tx_data is 0x00, the live block is 0 and STATUS is 0x100. -/
def Obligations.ResetStateHasStatedValues : Prop :=
  (∀ i : Field, State.reset.F.get i = 0) ∧ State.reset.hsState = .idle ∧ State.reset.reason = .none ∧
  (∀ k, State.reset.blk.read k = 0) ∧ State.reset.idx = 0 ∧ State.reset.mism = false ∧ State.reset.txp = false ∧
  State.reset.rxEnded = false ∧ (∀ j, State.reset.lr.lrBuf.read j = 0) ∧ State.reset.lr.lrCnt = 0 ∧
  State.reset.lr.lrEnd = 0 ∧ State.reset.lr.lrLead = true ∧ State.reset.lr.lrOvf = false ∧
  State.reset.busy = false ∧ State.reset.done = false ∧ State.reset.irq = false ∧ State.reset.chActive = false ∧
  State.reset.rxReady = false ∧ State.reset.txValid = false ∧ State.reset.txData = 0x00 ∧
  State.reset.encBlock = 0 ∧ State.reset.F.oor = false ∧ State.reset.F.dirRsv = true ∧
  State.reset.statusWord = 0x0000000000000100

/-- A transition asked for in a state where the table has a dash changes nothing (the model's choice, log entry 5)
(42_handshake.md rules R202, R234). Each controller transition, verdict signal and guarded sub-operation, in a
state where its row's condition does not hold, answers a next state that differs only in the answer, which says
that there was no step. R234 says the event is then not enabled and no error; that the model answers an unchanged
state is log entry 5. -/
def Obligations.DisabledTransitionsChangeNothing : Prop :=
  ∀ (b : Byte) (r : Reason) (s : State),
    (¬(s.hsState = .awaitingReady ∧ b ≠ Config.nl) →
      exec (.arByte b) s = .next { s with out := .noStep }) ∧
    (¬(s.hsState = .awaitingReady ∧ s.lr.Holds Config.litReady) →
      exec .arNlMatch s = .next { s with out := .noStep }) ∧
    (¬(s.hsState = .awaitingReady ∧ ¬s.lr.Holds Config.litReady) →
      exec .arNlOther s = .next { s with out := .noStep }) ∧
    (¬(s.hsState = .awaitingReady) →
      exec .arEnd s = .next { s with out := .noStep }) ∧
    (¬(s.hsState = .sending ∧ s.idx.toNat < 15) →
      exec .sendByte s = .next { s with out := .noStep }) ∧
    (¬(s.hsState = .sending ∧ s.idx.toNat = 15) →
      exec .sendLast s = .next { s with out := .noStep }) ∧
    (¬(s.hsState = .verifyingEcho ∧ s.txp = false ∧ s.idx.toNat < 15) →
      exec (.echoByte b) s = .next { s with out := .noStep }) ∧
    (¬(s.hsState = .verifyingEcho ∧ s.txp = false ∧ s.idx.toNat = 15) →
      exec (.echoLast b) s = .next { s with out := .noStep }) ∧
    (¬(s.hsState = .verifyingEcho ∧ s.txp = false) →
      exec .echoEnd s = .next { s with out := .noStep }) ∧
    (¬(s.hsState = .verifyingEcho ∧ s.txp = true ∧ s.mism = false) →
      exec .verdictProceed s = .next { s with out := .noStep }) ∧
    (¬(s.hsState = .verifyingEcho ∧ s.txp = true ∧ s.mism = true) →
      exec .verdictAbort s = .next { s with out := .noStep }) ∧
    (¬(s.hsState = .verifyingEcho ∧ s.txp = true ∧ s.mism = false) →
      exec .proceed s = .next { s with out := .noStep }) ∧
    (¬(s.hsState = .verifyingEcho ∧ s.txp = true ∧ s.mism = true) →
      exec .abort s = .next { s with out := .noStep }) ∧
    (¬(s.hsState = .awaitingDone ∧ b ≠ Config.nl) →
      exec (.adByte b) s = .next { s with out := .noStep }) ∧
    (¬(s.hsState = .awaitingDone ∧ s.lr.Holds Config.litDone) →
      exec .adNlMatch s = .next { s with out := .noStep }) ∧
    (¬(s.hsState = .awaitingDone ∧ ¬s.lr.Holds Config.litDone) →
      exec .adNlOther s = .next { s with out := .noStep }) ∧
    (¬(s.hsState = .awaitingDone) →
      exec .adEnd s = .next { s with out := .noStep }) ∧
    (¬((s.hsState = .awaitingReady ∨ s.hsState = .awaitingDone) ∧ b ≠ Config.nl) →
      exec (.lineByte b) s = .next { s with out := .noStep }) ∧
    (¬(s.busy = true ∧ r ≠ .none) →
      exec (.fail r) s = .next { s with out := .noStep })

/-- NL and WS arrive as RxByte while the controller reads, in each of its reading states, and wait in the receive
stream while it does not (30_encoding.md rules R104, R105, 42_handshake.md rules R214 to R216, R220, R221, R225 to
R227, R233, 20_memory.md rule R65). With an empty receive stream: NL ends the line in AwaitingReady (Sending with
idx 0 if the line held is WRITER READY, else Failed with WriterNotDetected) and in AwaitingDone (Success, or
Failed with WriteFailed); a whitespace byte other than NL goes to the line reader in the two line states; in
VerifyingEcho with txp = 0 either is a raw echo byte, compared and counted for idx < 15, and for idx = 15 compared
with blk[15] and followed by txp. WS with the byte NL is NL. Where the controller reads nothing, the byte joins
the end of the receive stream. Whatever the stream holds and whatever the state (with idx at most 15 while the
echo is read, as StepKeepsInvariant keeps it), NL and WS answer a next state, which is what the stream followed by
the byte leaves when its bytes are taken one by one by RxByte for as long as the controller reads. A byte outside
WS is not the row WS and changes nothing. (That these rows of the table act as arriving bytes is the model's
reading, log entry 10; that a byte outside WS changes nothing is log entry 5.) -/
def Obligations.TextBytesArrive : Prop :=
  ∀ (b : Byte) (s : State),
    (s.rxStream = [] → s.hsState = .awaitingReady → s.lr.Holds Config.litReady →
      exec .nl s = .next { s with hsState := .sending, idx := 0, out := .silent }) ∧
    (s.rxStream = [] → s.hsState = .awaitingReady → ¬s.lr.Holds Config.litReady →
      exec .nl s = .next { s with reason := .writerNotDetected, hsState := .failed, out := .silent }) ∧
    (s.rxStream = [] → s.hsState = .awaitingDone → s.lr.Holds Config.litDone →
      exec .nl s = .next { s with hsState := .success, out := .silent }) ∧
    (s.rxStream = [] → s.hsState = .awaitingDone → ¬s.lr.Holds Config.litDone →
      exec .nl s = .next { s with reason := .writeFailed, hsState := .failed, out := .silent }) ∧
    (s.rxStream = [] → s.hsState = .verifyingEcho → s.txp = false → s.idx.toNat < 15 →
      exec .nl s = .next { s with mism := if 0x0A = s.blk.read s.idx.toNat then s.mism else true,
                                  idx := s.idx + 1, out := .silent }) ∧
    (s.rxStream = [] → s.hsState = .verifyingEcho → s.txp = false → s.idx.toNat = 15 →
      exec .nl s = .next { s with mism := if 0x0A = s.blk.read 15 then s.mism else true,
                                  idx := 16, txp := true, out := .silent }) ∧
    (s.rxStream = [] → s.hsState = .awaitingReady ∨ s.hsState = .awaitingDone → b ∈ s.cfg.ws → b ≠ Config.nl →
      exec (.ws b) s = .next { s with lr := s.lr.lineByte s.cfg.ws b, out := .silent }) ∧
    (s.rxStream = [] → s.hsState = .verifyingEcho → s.txp = false → b ∈ s.cfg.ws → s.idx.toNat < 15 →
      exec (.ws b) s = .next { s with mism := if b = s.blk.read s.idx.toNat then s.mism else true,
                                      idx := s.idx + 1, out := .silent }) ∧
    (s.rxStream = [] → s.hsState = .verifyingEcho → s.txp = false → b ∈ s.cfg.ws → s.idx.toNat = 15 →
      exec (.ws b) s = .next { s with mism := if b = s.blk.read 15 then s.mism else true,
                                      idx := 16, txp := true, out := .silent }) ∧
    (Config.nl ∈ s.cfg.ws → exec (.ws Config.nl) s = exec .nl s) ∧
    (s.rxReady = false → exec .nl s = .next { s with rxStream := s.rxStream ++ [0x0A], out := .silent }) ∧
    (s.rxReady = false → b ∈ s.cfg.ws →
      exec (.ws b) s = .next { s with rxStream := s.rxStream ++ [b], out := .silent }) ∧
    ((s.readingEcho → s.idx.toNat ≤ 15) →
      (∃ t, exec .nl s = .next t ∧ s.Delivers (s.rxStream ++ [0x0A]) t) ∧
      (b ∈ s.cfg.ws → ∃ t, exec (.ws b) s = .next t ∧ s.Delivers (s.rxStream ++ [b]) t)) ∧
    (b ∉ s.cfg.ws → exec (.ws b) s = .next { s with out := .noStep })

/-- LIT_READY and LIT_DONE arrive byte by byte while the controller reads, a fresh line being judged by the state it
meets, and wait where it reads nothing (30_encoding.md rules R102, R103, R106, 42_handshake.md rules R214 to R216,
R220, R221, R225 to R227, R233, 20_memory.md rule R65). Whatever the stream holds and whatever the state (with idx
at most 15 while the echo is read, as StepKeepsInvariant keeps it), LIT_READY and LIT_DONE answer a next state,
which is what the stream followed by the literal and its terminator leaves when its bytes are taken one by one by
RxByte for as long as the controller reads. With an empty stream and a freshly reset line reader, under a
whitespace set that admits the literals: LIT_READY takes AwaitingReady to Sending with idx 0 and AwaitingDone to
Failed with WriteFailed; LIT_DONE takes AwaitingDone to Success and AwaitingReady to Failed with
WriterNotDetected; the detail is the literal, and nothing else changes. Where the controller reads nothing, the
line and its terminator join the end of the receive stream. (That these rows act as arriving lines is the model's
reading, log entry 10.) -/
def Obligations.LiteralSignalsArrive : Prop :=
  ∀ s : State,
    ((s.readingEcho → s.idx.toNat ≤ 15) →
      (∃ t, exec .litReady s = .next t ∧ s.Delivers (s.rxStream ++ (Config.litReady ++ [0x0A])) t) ∧
      (∃ t, exec .litDone s = .next t ∧ s.Delivers (s.rxStream ++ (Config.litDone ++ [0x0A])) t)) ∧
    (s.cfg.Ok → s.rxStream = [] → s.lr = LineReader.reset → s.hsState = .awaitingReady →
      exec .litReady s = .next { s with
        lr := { lrBuf := Memory.ofBytes 0 Config.litReady, lrCnt := 12, lrEnd := 12, lrLead := false, lrOvf := false }
        hsState := .sending, idx := 0, out := .silent } ∧
      exec .litDone s = .next { s with
        lr := { lrBuf := Memory.ofBytes 0 Config.litDone, lrCnt := 10, lrEnd := 10, lrLead := false, lrOvf := false }
        reason := .writerNotDetected, hsState := .failed, out := .silent }) ∧
    (s.cfg.Ok → s.rxStream = [] → s.lr = LineReader.reset → s.hsState = .awaitingDone →
      exec .litDone s = .next { s with
        lr := { lrBuf := Memory.ofBytes 0 Config.litDone, lrCnt := 10, lrEnd := 10, lrLead := false, lrOvf := false }
        hsState := .success, out := .silent } ∧
      exec .litReady s = .next { s with
        lr := { lrBuf := Memory.ofBytes 0 Config.litReady, lrCnt := 12, lrEnd := 12, lrLead := false, lrOvf := false }
        reason := .writeFailed, hsState := .failed, out := .silent }) ∧
    (s.rxReady = false →
      exec .litReady s = .next { s with rxStream := s.rxStream ++ (Config.litReady ++ [0x0A]), out := .silent } ∧
      exec .litDone s = .next { s with rxStream := s.rxStream ++ (Config.litDone ++ [0x0A]), out := .silent })

/-- The bounded line reader decides every line as the unbounded trimmed line would (42_handshake.md rules R209 to
R212, 30_encoding.md rule R106). For every whitespace set and every byte sequence s fed to a freshly reset line
reader, with T the trimmed sequence: lr_ovf is set exactly when T is longer than 64 bytes; without overflow lr_end
is the length of T and the detail is T; with overflow lr_end is at most 64 and the detail is a prefix of T; and
line_is holds of a literal of at most 64 bytes exactly when T is that literal. Trimming takes off a terminator at
the end, where it is whitespace. (R212, which the spec marks as its inference from R209 to R211.) -/
def Obligations.LineReaderIsExact : Prop :=
  ∀ (ws line : List Byte),
    (Config.nl ∈ ws → trim ws (line ++ [Config.nl]) = trim ws line) ∧
    ((line.foldl (fun l b => l.lineByte ws b) LineReader.reset).lrOvf = true ↔ 64 < (trim ws line).length) ∧
    ((line.foldl (fun l b => l.lineByte ws b) LineReader.reset).lrOvf = false →
      (line.foldl (fun l b => l.lineByte ws b) LineReader.reset).lrEnd.toNat = (trim ws line).length ∧
      (line.foldl (fun l b => l.lineByte ws b) LineReader.reset).detail = trim ws line) ∧
    ((line.foldl (fun l b => l.lineByte ws b) LineReader.reset).lrOvf = true →
      (line.foldl (fun l b => l.lineByte ws b) LineReader.reset).lrEnd.toNat ≤ 64 ∧
      (line.foldl (fun l b => l.lineByte ws b) LineReader.reset).detail <+: trim ws line) ∧
    (∀ lit : List Byte, lit.length ≤ 64 →
      ((line.foldl (fun l b => l.lineByte ws b) LineReader.reset).lineIs lit = true ↔ trim ws line = lit))

/-- A line received byte by byte and ended by NL or by RxEnd takes the session on exactly when its trimmed text is the
literal (42_handshake.md rules R200 (steps 1 and 4), R214 to R217, R225 to R228, R233). From AwaitingReady
(AwaitingDone) with a freshly reset line reader and NL in the whitespace set, for every byte sequence without NL:
the run of one RxByte event per byte followed by RxByte(NL), or by RxEnd, answers a next state; if the trimmed
sequence is WRITER READY (WRITE DONE) its hs_state is Sending with idx 0 (Success) and reason is unchanged,
otherwise hs_state is Failed and reason WriterNotDetected (WriteFailed); the field registers, the latched block,
mism, txp, the transmit and the receive stream and the pending inputs are unchanged, and rx_ended is set exactly
by RxEnd. -/
def Obligations.LineMessagesAreJudgedByTrimmedText : Prop :=
  ∀ (s : State) (line : List Byte) (cut : Bool),
    Config.nl ∈ s.cfg.ws → Config.nl ∉ line → s.lr = LineReader.reset →
    s.hsState = .awaitingReady ∨ s.hsState = .awaitingDone →
    ∃ t, runEvents (line.map .rxByte ++ [if cut then .rxEnd else .rxByte Config.nl]) s = .next t ∧
      (s.hsState = .awaitingReady → trim s.cfg.ws line = Config.litReady →
        t.hsState = .sending ∧ t.idx = 0 ∧ t.reason = s.reason) ∧
      (s.hsState = .awaitingReady → trim s.cfg.ws line ≠ Config.litReady →
        t.hsState = .failed ∧ t.idx = s.idx ∧ t.reason = .writerNotDetected) ∧
      (s.hsState = .awaitingDone → trim s.cfg.ws line = Config.litDone →
        t.hsState = .success ∧ t.idx = s.idx ∧ t.reason = s.reason) ∧
      (s.hsState = .awaitingDone → trim s.cfg.ws line ≠ Config.litDone →
        t.hsState = .failed ∧ t.idx = s.idx ∧ t.reason = .writeFailed) ∧
      t.rxEnded = (s.rxEnded || cut) ∧ t.F = s.F ∧ t.blk = s.blk ∧ t.mism = s.mism ∧ t.txp = s.txp ∧
      t.txStream = s.txStream ∧ t.rxStream = s.rxStream ∧ t.pending = s.pending ∧ t.cfg = s.cfg

/-- Sixteen TxAccept events from the start of Sending emit blk[0] to blk[15] in order and enter VerifyingEcho
(42_handshake.md rules R218, R219, 20_memory.md rule R69). From Sending with idx 0, the run of sixteen TxAccept
events answers the state whose transmit stream has gained exactly the sixteen latched bytes in order, with
hs_state VerifyingEcho and idx, mism, txp 0; nothing else changes. -/
def Obligations.SendingEmitsExactlyTheBlock : Prop :=
  ∀ s : State, s.hsState = .sending → s.idx = 0 →
    runEvents (List.replicate 16 .txAccept) s = .next
      { s with txStream := s.txStream ++ (List.range 16).map s.blk.read, hsState := .verifyingEcho, idx := 0,
               mism := false, txp := false, out := .silent }

/-- After sixteen echo bytes the device sends 0x40 and goes on exactly when every byte equals the one sent; a
differing or short echo gets 0x00 and EchoMismatch (42_handshake.md rules R200 (step 3), R220 to R224, R236 (c)).
From the start of VerifyingEcho (idx, mism, txp 0): the run of sixteen RxByte events and one TxAccept answers, if
the sixteen bytes are the latched block, the state with 0x40 appended to the transmit stream, AwaitingDone, idx 16
and a reset line reader; if they differ in any byte, the state with 0x00 appended, Failed, EchoMismatch, mism 1,
idx 16. An echo of n < 16 bytes followed by RxEnd and TxAccept gives 0x00, Failed, EchoMismatch, mism 1, rx_ended
1, idx n. Nothing else changes. -/
def Obligations.EchoVerdictIsByteForByte : Prop :=
  ∀ (s : State) (echo : List Byte),
    s.hsState = .verifyingEcho → s.idx = 0 → s.mism = false → s.txp = false →
    (echo = (List.range 16).map s.blk.read →
      runEvents (echo.map .rxByte ++ [.txAccept]) s = .next
        { s with txStream := s.txStream ++ [0x40], hsState := .awaitingDone, idx := 16, lr := LineReader.reset,
                 out := .silent }) ∧
    (echo.length = 16 → echo ≠ (List.range 16).map s.blk.read →
      runEvents (echo.map .rxByte ++ [.txAccept]) s = .next
        { s with txStream := s.txStream ++ [0x00], hsState := .failed, reason := .echoMismatch, idx := 16,
                 mism := true, out := .silent }) ∧
    (echo.length < 16 →
      runEvents (echo.map .rxByte ++ [.rxEnd, .txAccept]) s = .next
        { s with txStream := s.txStream ++ [0x00], hsState := .failed, reason := .echoMismatch,
                 idx := BitVec.ofNat 5 echo.length, mism := true, rxEnded := true, out := .silent })

/-- rx_ready, tx_valid, tx_data, ch_active and irq are the functions of the state the rules give; exactly one of the
first two is 1 while busy, neither otherwise (42_handshake.md rules R204 to R207, 60_exceptions.md rule R258,
10_state.md rule R35). In every state: rx_ready is 1 exactly in AwaitingReady, AwaitingDone and VerifyingEcho with
txp = 0; tx_valid exactly in Sending and VerifyingEcho with txp = 1; they are never both 1, and one of them is 1
exactly while the session is busy; tx_data is blk[idx] in Sending, 0x00 or 0x40 by mism in VerifyingEcho with txp
= 1, and 0x00 whenever tx_valid is 0; ch_active is busy and irq is done. (That rx_ready and tx_valid are never
both 1 is what R205 marks as its own inference; that one of them is 1 exactly while busy follows from R35, R204
and R205.) -/
def Obligations.ChannelOutputsFollowTheState : Prop :=
  ∀ s : State,
    (s.rxReady = true ↔ s.hsState = .awaitingReady ∨ s.hsState = .awaitingDone ∨
      (s.hsState = .verifyingEcho ∧ s.txp = false)) ∧
    (s.txValid = true ↔ s.hsState = .sending ∨ (s.hsState = .verifyingEcho ∧ s.txp = true)) ∧
    ¬(s.rxReady = true ∧ s.txValid = true) ∧
    (s.hsState = .sending → s.txData = s.blk.read s.idx.toNat) ∧
    (s.hsState = .verifyingEcho → s.txp = true → s.txData = if s.mism then 0x00 else 0x40) ∧
    (s.txValid = false → s.txData = 0x00) ∧
    s.chActive = s.busy ∧ s.irq = s.done ∧
    (s.busy = true ↔ s.rxReady = true ∨ s.txValid = true)

/-- No operation appends anything to the transmit stream but the offered byte tx_data, and only while tx_valid is 1
(20_memory.md rule R66, 42_handshake.md rules R205, R206, 30_encoding.md rule R117). For every operation that
answers a next state: the transmit stream is unchanged, or tx_valid was 1 and exactly tx_data has been appended.
And in every state of the invariant with tx_valid = 1 the TxAccept event answers a next state with tx_data
appended. -/
def Obligations.OnlyTheOfferedByteIsTransmitted : Prop :=
  (∀ (i : Instr) (s t : State), exec i s = .next t →
    t.txStream = s.txStream ∨ (s.txValid = true ∧ t.txStream = s.txStream ++ [s.txData])) ∧
  (∀ s : State, s.Inv → s.txValid = true →
    ∃ t, runEvent .txAccept s = .next t ∧ t.txStream = s.txStream ++ [s.txData])

/-- A channel event does to a session the same whatever the field registers hold (10_state.md rule R23, 20_memory.md
rules R76 (c), R77). For every channel event and every other contents G of the field registers: if the event
answers a next state t from s, then from s with G it answers t with G. So a write to F after START cannot
influence the session. -/
def Obligations.SessionIgnoresFieldWrites : Prop :=
  ∀ (e : Event) (s t : State) (G : Fields), e.isChannel = true → runEvent e s = .next t →
    runEvent e { s with F := G } = .next { t with F := G }

/-- A step takes the next pending input and runs the operation that it decodes to (00_scope.md rule R8, 20_memory.md
rule R76, 42_handshake.md rules R202, R234). If the next pending input is a host transaction, the step is exec of
the operation its word decodes to, on the state with the input taken; if it is a channel event that the outputs
enable, the step is exec of the operation that the event decodes to at the state's control point, with the input
taken (for RxByte, with the first byte of the receive stream taken as well); if it is reset, exec of RESET; a bare
word or a row number, exec of what it decodes to, except that a row which is only a part of steps (LINEBYTE,
LINE_RESET, FAIL) does not happen: the input is gone and the answer says that there was no step. With nothing
pending the step changes nothing. (The clauses on an empty pending list, a bare word, a row number and a sub-
operation are the model's: log entries 4, 7, 8 and 16.) -/
def Obligations.StepRunsDecodedOperation : Prop :=
  ∀ (s : State) (ps : List Input) (i : Instr),
    (s.pending = [] → step s = .next s) ∧
    (∀ xn, s.pending = .hostXn xn :: ps → step s = exec (decodeHost xn) { s with pending := ps }) ∧
    (∀ b bs, s.pending = .rxByte :: ps → s.rxReady = true → s.rxStream = b :: bs →
      decode s.controlPoint (.rxByte b) = .instr i → step s = exec i { s with pending := ps, rxStream := bs }) ∧
    (s.pending = .rxEnd :: ps → s.rxReady = true → decode s.controlPoint .rxEnd = .instr i →
      step s = exec i { s with pending := ps }) ∧
    (s.pending = .txAccept :: ps → s.txValid = true → decode s.controlPoint .txAccept = .instr i →
      step s = exec i { s with pending := ps }) ∧
    (s.pending = .reset :: ps → step s = exec .reset { s with pending := ps }) ∧
    (∀ n w, s.pending = .word n w :: ps → decodeTableWord n w = some i → step s = exec i { s with pending := ps }) ∧
    (∀ r d, s.pending = .op r d :: ps → subOperation r = false → decodeOp r d = .instr i →
      step s = exec i { s with pending := ps }) ∧
    (∀ r d, s.pending = .op r d :: ps → subOperation r = true →
      step s = .next { s with pending := ps, out := .noStep })

/-- Decoding what the encoder gives for a well-formed operation gives that operation, for every operand
(30_encoding.md rule R112, 41_host_interface.md rule R171, 42_handshake.md rule R234, log entries 7 and 8 (the
model's own words)). For every well-formed operation of the hundred, with every operand value it admits: decoding
the event that the encoder gives for it, at the control point that the encoder gives, is that operation. -/
def Obligations.DecodeEncodeAgree : Prop :=
  ∀ i : Instr, i.wellFormed = true → decode (encode i).1 (encode i).2 = .instr i

/-- Whatever the decoder reads is a well-formed operation, and a host write re-encodes to the word it was read from
(30_encoding.md rules R107, R112, 41_host_interface.md rules R171, R184). For every control point and event: if
the decoder reads an operation, the operation is well-formed; and if the event is a host write transaction, the
encoder gives that very 70-bit word for the operation, so no bit of a write is dropped. -/
def Obligations.DecodedOperationsAreWellFormed : Prop :=
  ∀ (c : ControlPoint) (e : Event) (i : Instr), decode c e = .instr i →
    i.wellFormed = true ∧ ∀ xn, e = .hostXn xn → HostXn.write xn = true → (encode i).2 = e

/-- Transaction words written out from R112 decode to the operations they stand for (30_encoding.md rule R112,
20_memory.md rule R62, 95_test_vectors.md program PG1). The HOSTXN words of the spec's own programs and table
decode as they say: writes of F_APPLICATION_CODE and F_PLATFORM_ID, reads of ENC_HI, STATUS and DETAIL7, START,
CLEAR, a commandless write of CTRL, a write of a read-only register, and accesses to unmapped numbers. -/
def Obligations.WrittenWordsDecode : Prop :=
  decodeHost 0x240000000000000001 = .wrFApplicationCode 1 ∧
  decodeHost 0x28000000000000001F = .wrFPlatformId 31 ∧
  decodeHost 0x0A0000000000000000 = .rdEncHi ∧
  decodeHost 0x0D0000000000000000 = .rdStatus ∧
  decodeHost 0x170000000000000000 = .rdDetail7 ∧
  decodeHost 0x2C0000000000000001 = .start 1 ∧
  decodeHost 0x2C0000000000000003 = .start 3 ∧
  decodeHost 0x2C0000000000000002 = .clear 2 ∧
  decodeHost 0x2C0000000000000004 = .wrCtrlNoCommand 4 ∧
  decodeHost 0x2F0000000000000001 = .wrSentLo 1 ∧
  decodeHost 0x090000000000000000 = .unmapped9 false 0 ∧
  decodeHost 0x3F0000000000000005 = .unmapped24to31 true 7 5

/-- In one clock cycle rst wins over everything, rx_valid over rx_end, and the channel step comes before the host
transaction (60_exceptions.md rule R259, 42_handshake.md rule R202). A cycle presented to the machine becomes, in
one step that changes nothing else, the inputs of that cycle in front of the pending ones: reset alone if rst is
1; otherwise, while rx_ready is 1, the receive byte if rx_valid is 1 and a byte is there, else the end of the read
if rx_end is 1, nothing otherwise; while tx_valid is 1, the acceptance if tx_ready is 1; and after the channel's
the host transaction, if one is presented. (The input that stands for a cycle, reset alone under rst and no offer
from an empty stream are log entry 14, on the pending inputs of log entry 4.) -/
def Obligations.ClockCycleOrdersItsEvents : Prop :=
  ∀ (s : State) (p : Pins) (ps : List Input), s.pending = .cycle p :: ps →
    (p.rst = true → step s = .next { s with pending := .reset :: ps, out := .silent }) ∧
    (p.rst = false → s.rxReady = true → p.rxValid = true → s.rxStream ≠ [] →
      step s = .next { s with pending := .rxByte :: (p.host.toList.map .hostXn ++ ps), out := .silent }) ∧
    (p.rst = false → s.rxReady = true → p.rxValid = false ∨ s.rxStream = [] → p.rxEnd = true →
      step s = .next { s with pending := .rxEnd :: (p.host.toList.map .hostXn ++ ps), out := .silent }) ∧
    (p.rst = false → s.txValid = true → p.txReady = true →
      step s = .next { s with pending := .txAccept :: (p.host.toList.map .hostXn ++ ps), out := .silent }) ∧
    (p.rst = false → s.rxReady = false ∨ ((p.rxValid = false ∨ s.rxStream = []) ∧ p.rxEnd = false) →
      s.txValid = false ∨ p.txReady = false →
      step s = .next { s with pending := p.host.toList.map .hostXn ++ ps, out := .silent })

/-- A byte offered while rx_ready is 0 stays in the stream; rx_end and tx_ready without a pending read or write have
no effect (20_memory.md rule R65, 42_handshake.md rules R202, R213). While rx_ready is 0 the receive byte and the
end of read, and while tx_valid is 0 the acceptance, pass without any change but the input being gone and the
answer; in particular the receive stream keeps its bytes. With rx_ready 1 and an empty stream the offer passes as
well. A byte sent by the peripheral joins the end of the receive stream in every state. (That an offer from an
empty stream passes is log entry 14, the pending inputs are log entry 4 and the streams in the state log entry
12.) -/
def Obligations.InputsNotTakenLeaveTheDeviceAlone : Prop :=
  ∀ (s : State) (ps : List Input),
    (s.pending = .rxByte :: ps → s.rxReady = false ∨ s.rxStream = [] →
      step s = .next { s with pending := ps, out := .silent }) ∧
    (s.pending = .rxEnd :: ps → s.rxReady = false → step s = .next { s with pending := ps, out := .silent }) ∧
    (s.pending = .txAccept :: ps → s.txValid = false → step s = .next { s with pending := ps, out := .silent }) ∧
    (∀ b, s.pending = .sent b :: ps →
      step s = .next { s with pending := ps, rxStream := s.rxStream ++ [b], out := .silent })

/-- The reset state meets the invariants (10_state.md rules R27 to R34, R41, 60_exceptions.md rule R264). The reset
state meets the invariant on the elements of R20 and the invariant on outcomes, and has only inputs of the device
pending (none). -/
def Obligations.ResetStateMeetsInvariants : Prop :=
  State.reset.Inv ∧ State.reset.OutcomeInv ∧ State.reset.deviceOnly

/-- Every step on a device input keeps what the state elements say of each other (10_state.md rules R27 to R34,
42_handshake.md rule R234 (last paragraph), 41_host_interface.md rule R192). For every state that meets the
invariant and has only inputs of the device pending (no stand-alone row of the table): if the step answers a next
state, that state meets the invariant and has only inputs of the device pending. The invariant: both byte spaces
in canonical form; blk[6..15] zero; lr_end ≤ lr_cnt ≤ 64 and the trimmed line held; reason ≠ None iff Failed; idx
≤ 16, ≤ 15 in Sending and while the echo is read, 16 when PROCEED waits; txp only in VerifyingEcho; Idle fully
cleared; idx, mism, rx_ended 0 in AwaitingReady, mism 0 in Sending, idx 16 and mism 0 in AwaitingDone. (The spec
marks most of these as its own inferences from the transitions.) -/
def Obligations.StepKeepsInvariant : Prop :=
  ∀ s t : State, s.Inv → s.deviceOnly → step s = .next t → t.Inv ∧ t.deviceOnly

/-- From a state of the invariant, no step on a device input stops the machine (42_handshake.md rule R234,
41_host_interface.md rule R196 (every transaction completes), 60_exceptions.md rule R267). For every state that
meets the invariant and has only inputs of the device pending, the step answers a next state: the device raises no
fault and the model refuses nothing. -/
def Obligations.DeviceStepsNeverStop : Prop :=
  ∀ s : State, s.Inv → s.deviceOnly → ∃ t, step s = .next t

/-- In every state that device inputs reach, each outcome leaves what the outcome table says (60_exceptions.md rules
R250, R256, R264). For every state that meets both invariants and has only inputs of the device pending: if the
step answers a next state, the outcome invariant holds there: the ready line is still held in Sending and
VerifyingEcho; in Success mism = 0, idx = 16 and the line is WRITE DONE; after WriterNotDetected mism = 0, idx = 0
and the line is not WRITER READY; after EchoMismatch mism = 1 and the ready line is still held; after WriteFailed
mism = 0, idx = 16 and the line is not WRITE DONE. -/
def Obligations.StepKeepsOutcomeTable : Prop :=
  ∀ s t : State, s.Inv → s.OutcomeInv → s.deviceOnly → step s = .next t → t.OutcomeInv

/-- At every moment a session has put on the wire exactly the bytes its state says: a part of the block, the block,
the block and one verdict byte (42_handshake.md rule R231, 20_memory.md rule R66, 70_reset_and_hazards.md rules
R281, R282). Let the transmit stream be some earlier bytes followed by what the state says of its session (nothing
before Sending and after WriterNotDetected; blk[0..idx-1] in Sending; the block in VerifyingEcho; the block and
0x40 in AwaitingDone, Success and after WriteFailed; the block and 0x00 after EchoMismatch). Every step on a
device input from a state of the invariant keeps this with the same earlier bytes, or transmits nothing and leaves
the session by an accepted START, by CLEAR or by reset, with nothing sent in the state it enters. -/
def Obligations.StepKeepsSessionTrace : Prop :=
  ∀ (earlier : List Byte) (s t : State), s.Inv → s.deviceOnly → s.txStream = earlier ++ s.sessionTx →
    step s = .next t →
    t.txStream = earlier ++ t.sessionTx ∨
    (t.txStream = s.txStream ∧ t.sessionTx = [] ∧
      (t.hsState = .idle ∨ (s.busy = false ∧ t.hsState = .awaitingReady)))

/-- A busy session always enables a channel event, and every enabled event but a further byte of a line brings it
nearer its end (60_exceptions.md rule R266, 42_handshake.md rules R201, R234, R235). In every busy state of the
invariant some channel event is enabled, and every enabled one answers a next state; a byte of a line other than
NL leaves the distance to the end as it is, and every other enabled event makes it smaller. -/
def Obligations.ChannelEventsBringTheSessionOn : Prop :=
  ∀ s : State, s.Inv → s.busy = true →
    (∃ e, e.isChannel = true ∧ s.enables e = true) ∧
    ∀ e, s.enables e = true → ∃ t, runEvent e s = .next t ∧
      (s.lineContinues e = true → t.distance = s.distance ∧ t.hsState = s.hsState) ∧
      (s.lineContinues e = false → t.distance < s.distance)

/-- hs_state changes only along the edges of the state graph, each taken by its own kind of event (42_handshake.md
rule R201, 41_host_interface.md rules R191, R192, R195, 60_exceptions.md rule R260). For every event of the device
and every state: if the event answers a next state, hs_state is unchanged, or a channel event took one of the
seven edges of the protocol, or a host write of CTRL took one of the five edges of START and CLEAR, or reset led
to Idle. -/
def Obligations.ProtocolStateMovesOnlyAlongItsGraph : Prop :=
  ∀ (e : Event) (s t : State), (∀ n w, e ≠ .word n w) → (∀ r d, e ≠ .op r d) → runEvent e s = .next t →
    t.hsState = s.hsState ∨
    (e.isChannel = true ∧ HsState.channelEdge s.hsState t.hsState = true) ∨
    ((∃ v, e = .hostXn (hostWord true 12 v)) ∧ HsState.commandEdge s.hsState t.hsState = true) ∨
    (e = .reset ∧ t.hsState = .idle)

/-- Under CH_FAIR every session reaches a terminal state, unless reset ends it (60_exceptions.md rule R266,
42_handshake.md rule R235, 70_reset_and_hazards.md rules R282, R289). For every infinite run on the device's
inputs, whatever the environment presents and when: if the channel is fair in the run (whenever rx_ready is 1 it
eventually performs RxByte or RxEnd; during a line read it does not deliver bytes for ever without NL or RxEnd;
whenever tx_valid is 1 it eventually performs TxAccept), then from every point at which a session is busy the
session stays busy up to a step that takes it to Success or Failed, or that is a reset. The model does not assume
CH_FAIR: it is the hypothesis ChFair here. (That a reset discharges the clause of the wait it interrupts is log
entry 23; the pending inputs are log entry 4.) -/
def Obligations.FairChannelEndsEverySession : Prop :=
  ∀ (ins : Nat → List Input) (r : Nat → State), Run ins r → ChFair ins r → ∀ n, (r n).busy = true →
    ∃ m, n ≤ m ∧ (∀ k, n ≤ k → k ≤ m → (r k).busy = true) ∧
      (Performs ins r m .reset ∨ (r (m + 1)).done = true)
end

