-- ==== Sys2Proof/Laws/Decode.lean ====
section
/-! SUPPORT. The three parts of a host transaction (R112). -/

namespace Sys2Proof

@[simp] theorem hostWord_write (w : Bool) (a : BitVec 5) (v : Word) : HostXn.write (hostWord w a v) = w := by
  unfold HostXn.write hostWord
  rw [BitVec.getLsbD_append, if_neg (by omega), BitVec.getLsbD_append, if_neg (by omega)]
  cases w <;> rfl

@[simp] theorem hostWord_addr (w : Bool) (a : BitVec 5) (v : Word) : HostXn.addr (hostWord w a v) = a := by
  unfold HostXn.addr hostWord
  apply BitVec.eq_of_getLsbD_eq
  intro i hi
  rw [BitVec.getLsbD_extractLsb', BitVec.getLsbD_append, if_neg (by omega), BitVec.getLsbD_append,
    if_pos (by omega)]
  simp [hi]

@[simp] theorem hostWord_wdata (w : Bool) (a : BitVec 5) (v : Word) : HostXn.wdata (hostWord w a v) = v := by
  unfold HostXn.wdata hostWord
  apply BitVec.eq_of_getLsbD_eq
  intro i hi
  rw [BitVec.getLsbD_extractLsb', BitVec.getLsbD_append, if_pos (by omega)]
  simp [hi]

/-- A transaction is the word of its three parts. -/
theorem hostWord_parts (xn : HostXn) : hostWord (HostXn.write xn) (HostXn.addr xn) (HostXn.wdata xn) = xn := by
  unfold hostWord HostXn.write HostXn.addr HostXn.wdata
  apply BitVec.eq_of_getLsbD_eq
  intro i hi
  rw [BitVec.getLsbD_append]
  split
  · next h => simp [h]
  · next h =>
    rw [BitVec.getLsbD_append]
    split
    · next h2 => simp [h2, show 64 + (i - 64) = i by omega]
    · next h2 =>
      obtain rfl : i = 69 := by omega
      simp

/-- The operation of a host write is read from its number and value (R171). -/
@[simp] theorem decodeHost_write (a : BitVec 5) (v : Word) : decodeHost (hostWord true a v) = decodeWrite a v := by
  simp [decodeHost]

/-- The operation of a host read is read from its number (R171). -/
@[simp] theorem decodeHost_read (a : BitVec 5) (v : Word) : decodeHost (hostWord false a v) = decodeRead a v := by
  simp [decodeHost]

end Sys2Proof
end

