-- ==== Sys2Proof/Laws/Encoder.lean ====
section
/-! SUPPORT. The field registers, and the bytes of a packed register or block. -/

namespace Sys2Proof.Machine

open Sys2Proof

/-- A field register just written reads the value written, all 64 bits (R21). -/
@[simp] theorem Fields.get_set_self (F : Fields) (i : Field) (v : Word) : (F.set i v).get i = v := by
  cases i <;> rfl

/-- A write of a field register leaves the others alone (R21). -/
theorem Fields.get_set_other (F : Fields) {i j : Field} (v : Word) (h : j ≠ i) : (F.set i v).get j = F.get j := by
  cases i <;> cases j <;> first | rfl | exact absurd rfl h

/-- Field registers that read alike are equal. -/
theorem Fields.ext_of_get {F G : Fields} (h : ∀ i, F.get i = G.get i) : F = G := by
  have h0 := h .blockId
  have h1 := h .asdoEnabled
  have h2 := h .approachDirection
  have h3 := h .version
  have h4 := h .applicationCode
  have h5 := h .doorEnable
  have h6 := h .stopZoneLength
  have h7 := h .stationId
  have h8 := h .platformId
  cases F; cases G
  simp only [Fields.get] at *
  simp [*]

/-- A bit of a packed register: byte `k` stands at bits `[63-8k : 56-8k]` (R70). -/
theorem packRegister_getLsbD (b : Nat → Byte) {k j : Nat} (hk : k < 8) (hj : j < 8) :
    (packRegister b).getLsbD (56 - 8 * k + j) = (b k).getLsbD j := by
  unfold packRegister
  interval_cases k <;>
    (repeat
      first
      | rw [BitVec.getLsbD_append, if_pos (by omega)]
      | rw [BitVec.getLsbD_append, if_neg (by omega)]) <;>
    (congr 1; omega)

/-- A byte of a packed register (R70, R109, R110). -/
theorem packRegister_byte (b : Nat → Byte) {k : Nat} (hk : k < 8) :
    (packRegister b).extractLsb' (56 - 8 * k) 8 = b k := by
  apply BitVec.eq_of_getLsbD_eq
  intro j hj
  rw [BitVec.getLsbD_extractLsb', packRegister_getLsbD b hk hj]
  simp [hj]

/-- A byte of a packed block (R70, R163). -/
theorem blockByte_packBlock (b : Nat → Byte) {k : Nat} (hk : k < 16) : blockByte (packBlock b) k = b k := by
  unfold blockByte packBlock
  apply BitVec.eq_of_getLsbD_eq
  intro j hj
  rw [BitVec.getLsbD_extractLsb', BitVec.getLsbD_append]
  by_cases h : 8 ≤ k
  · obtain ⟨m, rfl⟩ : ∃ m, k = 8 + m := ⟨k - 8, by omega⟩
    have hm : m < 8 := by omega
    rw [show 120 - 8 * (8 + m) + j = 56 - 8 * m + j by omega, if_pos (by omega),
      packRegister_getLsbD (fun k => b (8 + k)) hm hj]
    simp [hj]
  · rw [if_neg (by omega), show 120 - 8 * k + j - 64 = 56 - 8 * k + j by omega, packRegister_getLsbD b (by omega) hj]
    simp [hj]

/-- Blocks with the same sixteen bytes are equal. -/
theorem block_ext {x y : Block} (h : ∀ k, k < 16 → blockByte x k = blockByte y k) : x = y := by
  apply BitVec.eq_of_getLsbD_eq
  intro i hi
  have hb := congrArg (fun z => z.getLsbD (i % 8)) (h (15 - i / 8) (by omega))
  simp only [blockByte, BitVec.getLsbD_extractLsb'] at hb
  rw [show 120 - 8 * (15 - i / 8) + i % 8 = i by omega] at hb
  simpa [Nat.mod_lt] using hb

end Sys2Proof.Machine
end

