-- ==== Sys2Proof/Laws/Memory.lean ====
section
/-! SUPPORT. The byte spaces: a read after a write, the canonical form that every operation keeps, and equality of
spaces that read alike. -/

namespace Sys2Proof.Machine

open Sys2Proof

@[simp] theorem Memory.read_nil (a : Nat) : Memory.read [] a = 0 := rfl

theorem Memory.read_cons (x : Nat) (c : Byte) (m : Memory) (a : Nat) :
    Memory.read ((x, c) :: m) a = if a = x then c else Memory.read m a := rfl

/-- An index that no entry has reads 0x00. -/
theorem Memory.read_eq_zero {m : Memory} {a : Nat} (h : ∀ c ∈ m, c.1 ≠ a) : m.read a = 0 := by
  induction m with
  | nil => rfl
  | cons c m ih =>
    obtain ⟨x, v⟩ := c
    have hx : a ≠ x := fun e => h (x, v) List.mem_cons_self e.symm
    rw [Memory.read_cons, if_neg hx]
    exact ih fun d hd => h d (List.mem_cons_of_mem _ hd)

theorem Memory.read_of_size_le {size : Nat} {m : Memory} (hm : m.wf size) {a : Nat} (ha : size ≤ a) :
    m.read a = 0 :=
  Memory.read_eq_zero fun c hc e => by have := (hm.2 c hc).1; omega

theorem Memory.wf_mono {n k : Nat} {m : Memory} (hm : m.wf n) (h : n ≤ k) : m.wf k :=
  ⟨hm.1, fun c hc => ⟨Nat.lt_of_lt_of_le (hm.2 c hc).1 h, (hm.2 c hc).2⟩⟩

theorem Memory.wf_nil (size : Nat) : Memory.wf size [] := by simp [Memory.wf]

theorem Memory.wf_tail {size x : Nat} {v : Byte} {m : Memory} (h : Memory.wf size ((x, v) :: m)) : m.wf size :=
  ⟨(List.pairwise_cons.mp h.1).2, fun c hc => h.2 c (List.mem_cons_of_mem _ hc)⟩

theorem Memory.wf_head_lt {size x : Nat} {v : Byte} {m : Memory} (h : Memory.wf size ((x, v) :: m)) :
    ∀ c ∈ m, x < c.1 :=
  fun c hc => (List.pairwise_cons.mp h.1).1 c hc

theorem Memory.wf_cons {size x : Nat} {v : Byte} {m : Memory} (hm : m.wf size) (hx : x < size) (hv : v ≠ 0)
    (hlt : ∀ c ∈ m, x < c.1) : Memory.wf size ((x, v) :: m) := by
  refine ⟨List.pairwise_cons.mpr ⟨fun c hc => hlt c hc, hm.1⟩, fun c hc => ?_⟩
  rcases List.mem_cons.mp hc with rfl | hc
  · exact ⟨hx, hv⟩
  · exact hm.2 c hc

/-! ### Reads after a write -/

/-- A write leaves every other byte alone. -/
theorem Memory.read_write_other (m : Memory) {a a' : Nat} (b : Byte) (h : a' ≠ a) :
    (m.write a b).read a' = m.read a' := by
  induction m with
  | nil =>
    rw [Memory.write]
    split <;> simp [Memory.read_cons, h]
  | cons c m ih =>
    obtain ⟨x, v⟩ := c
    rw [Memory.write]
    split
    · split <;> simp [Memory.read_cons, h]
    · split
      · next _ e =>
        subst e
        split <;> simp [Memory.read_cons, h]
      · rw [Memory.read_cons, Memory.read_cons, ih]

/-- A read of the byte just written gives the value written. -/
theorem Memory.read_write_self {size : Nat} {m : Memory} (hm : m.wf size) (a : Nat) (b : Byte) :
    (m.write a b).read a = b := by
  induction m with
  | nil =>
    rw [Memory.write]
    split
    · next hb => rw [Memory.read_nil, hb]
    · simp [Memory.read_cons]
  | cons c m ih =>
    obtain ⟨x, v⟩ := c
    have hlt := Memory.wf_head_lt hm
    have hz : ∀ {k}, k ≤ x → Memory.read m k = 0 := fun hk =>
      Memory.read_eq_zero fun d hd e => by have := hlt d hd; omega
    rw [Memory.write]
    split
    · next h =>
      split
      · next hb => rw [Memory.read_cons, if_neg (by omega), hz (by omega), hb]
      · simp [Memory.read_cons]
    · split
      · next _ e =>
        subst e
        split
        · next hb => rw [hz (le_refl _), hb]
        · simp [Memory.read_cons]
      · next _ hne => rw [Memory.read_cons, if_neg hne, ih (Memory.wf_tail hm)]

/-- Both cases of a read after a write. -/
theorem Memory.read_write {size : Nat} {m : Memory} (hm : m.wf size) (a a' : Nat) (b : Byte) :
    (m.write a b).read a' = if a' = a then b else m.read a' := by
  split
  · next h => rw [h, Memory.read_write_self hm]
  · next h => exact Memory.read_write_other m b h

/-! ### The canonical form -/

/-- Whatever a write lists is the index written or was listed before. -/
theorem Memory.mem_write {m : Memory} {a : Nat} {b : Byte} {c : Host.Cell} (h : c ∈ m.write a b) :
    c.1 = a ∨ c ∈ m := by
  induction m with
  | nil =>
    rw [Memory.write] at h
    split at h
    · exact absurd h (by simp)
    · exact .inl (by rw [List.mem_singleton.mp h])
  | cons d m ih =>
    obtain ⟨x, v⟩ := d
    simp only [Memory.write] at h
    split at h
    · split at h
      · exact .inr h
      · rcases List.mem_cons.mp h with rfl | h
        · exact .inl rfl
        · exact .inr h
    · split at h
      · split at h
        · exact .inr (List.mem_cons_of_mem _ h)
        · rcases List.mem_cons.mp h with rfl | h
          · exact .inl rfl
          · exact .inr (List.mem_cons_of_mem _ h)
      · rcases List.mem_cons.mp h with rfl | h
        · exact .inr List.mem_cons_self
        · exact (ih h).imp_right (List.mem_cons_of_mem _)

/-- A write at an index of the space keeps the canonical form. -/
theorem Memory.write_wf {size : Nat} {m : Memory} (hm : m.wf size) {a : Nat} (ha : a < size) (b : Byte) :
    (m.write a b).wf size := by
  induction m with
  | nil =>
    rw [Memory.write]
    split
    · exact hm
    · next hb => exact Memory.wf_cons hm ha hb (by simp)
  | cons d m ih =>
    obtain ⟨x, v⟩ := d
    have ht := Memory.wf_tail hm
    have hlt := Memory.wf_head_lt hm
    have hx := hm.2 (x, v) List.mem_cons_self
    rw [Memory.write]
    split
    · next h =>
      split
      · exact hm
      · next hb =>
        refine Memory.wf_cons hm ha hb fun c hc => ?_
        rcases List.mem_cons.mp hc with rfl | hc
        · exact h
        · exact Nat.lt_trans h (hlt c hc)
    · split
      · next _ e =>
        subst e
        split
        · exact ht
        · next hb => exact Memory.wf_cons ht ha hb hlt
      · next h1 h2 =>
        refine Memory.wf_cons (ih ht) hx.1 hx.2 fun c hc => ?_
        rcases Memory.mem_write hc with e | hc
        · omega
        · exact hlt c hc

/-- A space built from bytes lists only indices from its start on. -/
theorem Memory.le_of_mem_ofBytes {a : Nat} {bs : List Byte} {c : Host.Cell} (h : c ∈ Memory.ofBytes a bs) :
    a ≤ c.1 := by
  induction bs generalizing a with
  | nil => simp [Memory.ofBytes] at h
  | cons b bs ih =>
    rw [Memory.ofBytes] at h
    split at h
    · have := ih h; omega
    · rcases List.mem_cons.mp h with rfl | h
      · exact le_refl _
      · have := ih h; omega

/-- A space built from bytes is in canonical form. -/
theorem Memory.ofBytes_wf (a : Nat) (bs : List Byte) : (Memory.ofBytes a bs).wf (a + bs.length) := by
  induction bs generalizing a with
  | nil => simp [Memory.ofBytes, Memory.wf]
  | cons b bs ih =>
    have h := ih (a + 1)
    rw [show a + 1 + bs.length = a + (b :: bs).length by simp; omega] at h
    rw [Memory.ofBytes]
    split
    · exact h
    · next hb =>
      refine Memory.wf_cons h (by simp) hb fun c hc => ?_
      have := Memory.le_of_mem_ofBytes hc; omega

/-- A read of a space built from bytes. -/
theorem Memory.read_ofBytes (a : Nat) (bs : List Byte) (j : Nat) :
    (Memory.ofBytes a bs).read j = if a ≤ j then bs.getD (j - a) 0 else 0 := by
  induction bs generalizing a with
  | nil => simp [Memory.ofBytes]
  | cons b bs ih =>
    have key : (Memory.ofBytes a (b :: bs)).read j = if j = a then b else (Memory.ofBytes (a + 1) bs).read j := by
      rw [Memory.ofBytes]
      split
      · next hb =>
        split
        · next e => rw [ih, if_neg (by omega), hb]
        · rfl
      · rw [Memory.read_cons]
    rw [key, ih]
    by_cases h1 : j = a
    · subst h1; simp
    · by_cases h2 : a ≤ j
      · obtain ⟨k, rfl⟩ : ∃ k, j = a + 1 + k := ⟨j - a - 1, by omega⟩
        rw [if_neg h1, if_pos (by omega), if_pos h2, show a + 1 + k - (a + 1) = k by omega,
          show a + 1 + k - a = k + 1 by omega, List.getD_cons_succ]
      · rw [if_neg h1, if_neg (by omega), if_neg h2]

/-- Spaces in canonical form that read alike are equal. -/
theorem Memory.ext_of_read {size : Nat} {m n : Memory} (hm : m.wf size) (hn : n.wf size)
    (h : ∀ a, m.read a = n.read a) : m = n := by
  induction m generalizing n with
  | nil =>
    cases n with
    | nil => rfl
    | cons d n =>
      have := h d.1
      rw [Memory.read_nil, Memory.read_cons, if_pos rfl] at this
      exact absurd this.symm (hn.2 d List.mem_cons_self).2
  | cons c m ih =>
    cases n with
    | nil =>
      have := h c.1
      rw [Memory.read_nil, Memory.read_cons, if_pos rfl] at this
      exact absurd this (hm.2 c List.mem_cons_self).2
    | cons d n =>
      obtain ⟨x, v⟩ := c
      obtain ⟨y, w⟩ := d
      have hxz : ∀ {k}, k ≤ x → Memory.read m k = 0 := fun hk =>
        Memory.read_eq_zero fun e he q => by have := Memory.wf_head_lt hm e he; omega
      have hyz : ∀ {k}, k ≤ y → Memory.read n k = 0 := fun hk =>
        Memory.read_eq_zero fun e he q => by have := Memory.wf_head_lt hn e he; omega
      have hx := h x
      have hy := h y
      rw [Memory.read_cons, Memory.read_cons, if_pos rfl] at hx
      rw [Memory.read_cons, Memory.read_cons, if_pos rfl] at hy
      have hxy : x = y := by
        by_contra hne
        rw [if_neg hne] at hx
        rw [if_neg (Ne.symm hne)] at hy
        rcases Nat.lt_or_gt_of_ne hne with hl | hl
        · exact (hm.2 _ List.mem_cons_self).2 (hx.trans (hyz (by omega)))
        · exact (hn.2 _ List.mem_cons_self).2 (hy.symm.trans (hxz (by omega)))
      subst hxy
      rw [if_pos rfl] at hx
      subst hx
      rw [ih (Memory.wf_tail hm) (Memory.wf_tail hn) fun a => ?_]
      have ha := h a
      rw [Memory.read_cons, Memory.read_cons] at ha
      by_cases e : a = x
      · rw [e, hxz (le_refl _), hyz (le_refl _)]
      · rwa [if_neg e, if_neg e] at ha

end Sys2Proof.Machine
end

