-- ==== Sys2Proof/Laws/LineReader.lean ====
section
/-! SUPPORT. The line reader: the three things LINEBYTE can do, and that its elements keep saying of each other what
R34 says. -/

namespace Sys2Proof.Machine

open Sys2Proof

/-- After its reset the line reader is well-formed. -/
theorem LineReader.reset_wf (ws : List Byte) : LineReader.reset.Wf ws where
  bufWf := Memory.wf_nil _
  endLe := by decide
  cntLe := by decide
  stored := fun _ _ => rfl
  lead := fun _ => rfl
  first := fun h => absurd h (by decide)
  last := fun h => absurd h (by decide)
  ovf := fun h => absurd h (by decide)

/-- LINEBYTE on leading whitespace changes nothing (R210). -/
theorem LineReader.lineByte_skip {ws : List Byte} {b : Byte} {l : LineReader} (h : l.lrLead = true) (hb : b ∈ ws) :
    l.lineByte ws b = l := if_pos ⟨h, hb⟩

/-- LINEBYTE stores the byte while there is room (R210). -/
theorem LineReader.lineByte_store {ws : List Byte} {b : Byte} {l : LineReader} (h : ¬(l.lrLead = true ∧ b ∈ ws))
    (hc : l.lrCnt < 64) :
    l.lineByte ws b =
      { lrBuf := l.lrBuf.write l.lrCnt.toNat b, lrCnt := l.lrCnt + 1,
        lrEnd := if b ∈ ws then l.lrEnd else l.lrCnt + 1, lrLead := false, lrOvf := l.lrOvf } := by
  rw [LineReader.lineByte, if_neg h, if_pos hc]

/-- LINEBYTE drops the byte where there is none (R210). -/
theorem LineReader.lineByte_drop {ws : List Byte} {b : Byte} {l : LineReader} (h : ¬(l.lrLead = true ∧ b ∈ ws))
    (hc : ¬l.lrCnt < 64) :
    l.lineByte ws b = { l with lrLead := false, lrOvf := if b ∈ ws then l.lrOvf else true } := by
  rw [LineReader.lineByte, if_neg h, if_neg hc]

/-- Everything LINEBYTE can do (R210). -/
theorem LineReader.lineByte_cases (ws : List Byte) (b : Byte) (l : LineReader) :
    (l.lrLead = true ∧ b ∈ ws ∧ l.lineByte ws b = l) ∨
    (¬(l.lrLead = true ∧ b ∈ ws) ∧ l.lrCnt < 64 ∧ l.lineByte ws b =
      { lrBuf := l.lrBuf.write l.lrCnt.toNat b, lrCnt := l.lrCnt + 1,
        lrEnd := if b ∈ ws then l.lrEnd else l.lrCnt + 1, lrLead := false, lrOvf := l.lrOvf }) ∨
    (¬(l.lrLead = true ∧ b ∈ ws) ∧ ¬l.lrCnt < 64 ∧ l.lineByte ws b =
      { l with lrLead := false, lrOvf := if b ∈ ws then l.lrOvf else true }) := by
  by_cases h : l.lrLead = true ∧ b ∈ ws
  · exact .inl ⟨h.1, h.2, LineReader.lineByte_skip h.1 h.2⟩
  · by_cases hc : l.lrCnt < 64
    · exact .inr (.inl ⟨h, hc, LineReader.lineByte_store h hc⟩)
    · exact .inr (.inr ⟨h, hc, LineReader.lineByte_drop h hc⟩)

/-- The count below 64 grows by exactly one. -/
theorem LineReader.cnt_succ {c : BitVec 7} (h : c < 64) : (c + 1).toNat = c.toNat + 1 := by
  bv_omega

/-- LINEBYTE keeps the line reader well-formed. -/
theorem LineReader.lineByte_wf {ws : List Byte} {l : LineReader} (h : l.Wf ws) (b : Byte) :
    (l.lineByte ws b).Wf ws := by
  rcases LineReader.lineByte_cases ws b l with ⟨_, _, e⟩ | ⟨hn, hc, e⟩ | ⟨hn, hc, e⟩
  · rw [e]; exact h
  · rw [e]
    have hcn : l.lrCnt.toNat < 64 := by bv_omega
    have hs := LineReader.cnt_succ hc
    have hrd := Memory.read_write h.bufWf l.lrCnt.toNat
    have he := h.endLe
    -- the first byte stored of a line is no whitespace
    have hlead : l.lrLead = true → b ∉ ws := fun hl hb => hn ⟨hl, hb⟩
    have hl0 : l.lrLead = true → l.lrCnt.toNat = 0 ∧ l.lrEnd.toNat = 0 := fun hl => by
      rw [h.lead hl]; decide
    refine ⟨Memory.write_wf h.bufWf (by simpa [Config.detailMax] using hcn) b, ?_, ?_, ?_, ?_, ?_, ?_, ?_⟩
    · show (if b ∈ ws then l.lrEnd else l.lrCnt + 1).toNat ≤ (l.lrCnt + 1).toNat
      split
      · omega
      · exact le_refl _
    · show (l.lrCnt + 1).toNat ≤ Config.detailMax
      rw [hs]; simp only [Config.detailMax]; omega
    · intro j hj
      have hj' : (l.lrCnt + 1).toNat ≤ j := hj
      show (l.lrBuf.write _ b).read j = 0
      rw [hrd, if_neg (by omega), h.stored j (by omega)]
    · intro hf; exact absurd hf (by simp)
    · intro _
      show 0 < (if b ∈ ws then l.lrEnd else l.lrCnt + 1).toNat ∧ (l.lrBuf.write _ b).read 0 ∉ ws
      cases hl : l.lrLead with
      | true =>
        rw [if_neg (hlead hl), hs, hrd, if_pos (hl0 hl).1.symm]
        exact ⟨by omega, hlead hl⟩
      | false =>
        obtain ⟨h1, h2⟩ := h.first hl
        rw [hrd, if_neg (show (0 : Nat) ≠ l.lrCnt.toNat by omega)]
        refine ⟨?_, h2⟩
        split
        · exact h1
        · rw [hs]; omega
    · show 0 < (if b ∈ ws then l.lrEnd else l.lrCnt + 1).toNat →
        (l.lrBuf.write _ b).read ((if b ∈ ws then l.lrEnd else l.lrCnt + 1).toNat - 1) ∉ ws
      rw [hrd]
      split
      · next hb =>
        intro hp
        rw [if_neg (by omega)]
        exact h.last hp
      · next hb =>
        intro _
        rw [hs, if_pos (by omega)]
        exact hb
    · intro ho
      have := h.ovf ho
      simp only [Config.detailMax] at this
      omega
  · rw [e]
    have hcn : l.lrCnt.toNat = 64 := by
      have := h.cntLe
      simp only [Config.detailMax] at this
      bv_omega
    have hl : l.lrLead = false := by
      cases hl : l.lrLead with
      | false => rfl
      | true =>
        have hz : l.lrCnt.toNat = 0 := by rw [h.lead hl]; decide
        omega
    exact ⟨h.bufWf, h.endLe, h.cntLe, h.stored, fun hf => absurd hf (by simp), fun _ => h.first hl, h.last,
      fun _ => hcn⟩

/-- A detail byte at or beyond `lr_end` reads 0x00 (R110). -/
theorem LineReader.detailByte_of_le {l : LineReader} {j : Nat} (h : l.lrEnd.toNat ≤ j) : l.detailByte j = 0 :=
  if_neg (by omega)

/-- A detail byte below `lr_end` is the byte stored (R110). -/
theorem LineReader.detailByte_of_lt {l : LineReader} {j : Nat} (h : j < l.lrEnd.toNat) :
    l.detailByte j = l.lrBuf.read j := if_pos h

end Sys2Proof.Machine
end

