-- ==== Sys2Proof/Laws/State.lean ====
section
/-! SUPPORT. One lemma per element of the state and per write of one: what the element is afterwards. The primitive
writes first, then the shared operations made of them (line reader, failure entry, START, CLEAR, reset). -/

namespace Sys2Proof.Machine

open Sys2Proof

section
variable (o : Output) (s : State)
@[simp] theorem State.answer_cfg : (s.answer o).cfg = s.cfg := rfl
@[simp] theorem State.answer_F : (s.answer o).F = s.F := rfl
@[simp] theorem State.answer_hsState : (s.answer o).hsState = s.hsState := rfl
@[simp] theorem State.answer_reason : (s.answer o).reason = s.reason := rfl
@[simp] theorem State.answer_blk : (s.answer o).blk = s.blk := rfl
@[simp] theorem State.answer_idx : (s.answer o).idx = s.idx := rfl
@[simp] theorem State.answer_mism : (s.answer o).mism = s.mism := rfl
@[simp] theorem State.answer_txp : (s.answer o).txp = s.txp := rfl
@[simp] theorem State.answer_rxEnded : (s.answer o).rxEnded = s.rxEnded := rfl
@[simp] theorem State.answer_lr : (s.answer o).lr = s.lr := rfl
@[simp] theorem State.answer_rxStream : (s.answer o).rxStream = s.rxStream := rfl
@[simp] theorem State.answer_txStream : (s.answer o).txStream = s.txStream := rfl
@[simp] theorem State.answer_pending : (s.answer o).pending = s.pending := rfl
@[simp] theorem State.answer_out : (s.answer o).out = o := rfl
end

section
variable (i : Field) (v : Word) (s : State)
@[simp] theorem State.setField_cfg : (s.setField i v).cfg = s.cfg := rfl
@[simp] theorem State.setField_F : (s.setField i v).F = s.F.set i v := rfl
@[simp] theorem State.setField_hsState : (s.setField i v).hsState = s.hsState := rfl
@[simp] theorem State.setField_reason : (s.setField i v).reason = s.reason := rfl
@[simp] theorem State.setField_blk : (s.setField i v).blk = s.blk := rfl
@[simp] theorem State.setField_idx : (s.setField i v).idx = s.idx := rfl
@[simp] theorem State.setField_mism : (s.setField i v).mism = s.mism := rfl
@[simp] theorem State.setField_txp : (s.setField i v).txp = s.txp := rfl
@[simp] theorem State.setField_rxEnded : (s.setField i v).rxEnded = s.rxEnded := rfl
@[simp] theorem State.setField_lr : (s.setField i v).lr = s.lr := rfl
@[simp] theorem State.setField_rxStream : (s.setField i v).rxStream = s.rxStream := rfl
@[simp] theorem State.setField_txStream : (s.setField i v).txStream = s.txStream := rfl
@[simp] theorem State.setField_pending : (s.setField i v).pending = s.pending := rfl
@[simp] theorem State.setField_out : (s.setField i v).out = s.out := rfl
end

section
variable (h : HsState) (s : State)
@[simp] theorem State.enter_cfg : (s.enter h).cfg = s.cfg := rfl
@[simp] theorem State.enter_F : (s.enter h).F = s.F := rfl
@[simp] theorem State.enter_hsState : (s.enter h).hsState = h := rfl
@[simp] theorem State.enter_reason : (s.enter h).reason = s.reason := rfl
@[simp] theorem State.enter_blk : (s.enter h).blk = s.blk := rfl
@[simp] theorem State.enter_idx : (s.enter h).idx = s.idx := rfl
@[simp] theorem State.enter_mism : (s.enter h).mism = s.mism := rfl
@[simp] theorem State.enter_txp : (s.enter h).txp = s.txp := rfl
@[simp] theorem State.enter_rxEnded : (s.enter h).rxEnded = s.rxEnded := rfl
@[simp] theorem State.enter_lr : (s.enter h).lr = s.lr := rfl
@[simp] theorem State.enter_rxStream : (s.enter h).rxStream = s.rxStream := rfl
@[simp] theorem State.enter_txStream : (s.enter h).txStream = s.txStream := rfl
@[simp] theorem State.enter_pending : (s.enter h).pending = s.pending := rfl
@[simp] theorem State.enter_out : (s.enter h).out = s.out := rfl
end

section
variable (r : Reason) (s : State)
@[simp] theorem State.setReason_cfg : (s.setReason r).cfg = s.cfg := rfl
@[simp] theorem State.setReason_F : (s.setReason r).F = s.F := rfl
@[simp] theorem State.setReason_hsState : (s.setReason r).hsState = s.hsState := rfl
@[simp] theorem State.setReason_reason : (s.setReason r).reason = r := rfl
@[simp] theorem State.setReason_blk : (s.setReason r).blk = s.blk := rfl
@[simp] theorem State.setReason_idx : (s.setReason r).idx = s.idx := rfl
@[simp] theorem State.setReason_mism : (s.setReason r).mism = s.mism := rfl
@[simp] theorem State.setReason_txp : (s.setReason r).txp = s.txp := rfl
@[simp] theorem State.setReason_rxEnded : (s.setReason r).rxEnded = s.rxEnded := rfl
@[simp] theorem State.setReason_lr : (s.setReason r).lr = s.lr := rfl
@[simp] theorem State.setReason_rxStream : (s.setReason r).rxStream = s.rxStream := rfl
@[simp] theorem State.setReason_txStream : (s.setReason r).txStream = s.txStream := rfl
@[simp] theorem State.setReason_pending : (s.setReason r).pending = s.pending := rfl
@[simp] theorem State.setReason_out : (s.setReason r).out = s.out := rfl
end

section
variable (m : Memory) (s : State)
@[simp] theorem State.setBlk_cfg : (s.setBlk m).cfg = s.cfg := rfl
@[simp] theorem State.setBlk_F : (s.setBlk m).F = s.F := rfl
@[simp] theorem State.setBlk_hsState : (s.setBlk m).hsState = s.hsState := rfl
@[simp] theorem State.setBlk_reason : (s.setBlk m).reason = s.reason := rfl
@[simp] theorem State.setBlk_blk : (s.setBlk m).blk = m := rfl
@[simp] theorem State.setBlk_idx : (s.setBlk m).idx = s.idx := rfl
@[simp] theorem State.setBlk_mism : (s.setBlk m).mism = s.mism := rfl
@[simp] theorem State.setBlk_txp : (s.setBlk m).txp = s.txp := rfl
@[simp] theorem State.setBlk_rxEnded : (s.setBlk m).rxEnded = s.rxEnded := rfl
@[simp] theorem State.setBlk_lr : (s.setBlk m).lr = s.lr := rfl
@[simp] theorem State.setBlk_rxStream : (s.setBlk m).rxStream = s.rxStream := rfl
@[simp] theorem State.setBlk_txStream : (s.setBlk m).txStream = s.txStream := rfl
@[simp] theorem State.setBlk_pending : (s.setBlk m).pending = s.pending := rfl
@[simp] theorem State.setBlk_out : (s.setBlk m).out = s.out := rfl
end

section
variable (n : BitVec 5) (s : State)
@[simp] theorem State.setIdx_cfg : (s.setIdx n).cfg = s.cfg := rfl
@[simp] theorem State.setIdx_F : (s.setIdx n).F = s.F := rfl
@[simp] theorem State.setIdx_hsState : (s.setIdx n).hsState = s.hsState := rfl
@[simp] theorem State.setIdx_reason : (s.setIdx n).reason = s.reason := rfl
@[simp] theorem State.setIdx_blk : (s.setIdx n).blk = s.blk := rfl
@[simp] theorem State.setIdx_idx : (s.setIdx n).idx = n := rfl
@[simp] theorem State.setIdx_mism : (s.setIdx n).mism = s.mism := rfl
@[simp] theorem State.setIdx_txp : (s.setIdx n).txp = s.txp := rfl
@[simp] theorem State.setIdx_rxEnded : (s.setIdx n).rxEnded = s.rxEnded := rfl
@[simp] theorem State.setIdx_lr : (s.setIdx n).lr = s.lr := rfl
@[simp] theorem State.setIdx_rxStream : (s.setIdx n).rxStream = s.rxStream := rfl
@[simp] theorem State.setIdx_txStream : (s.setIdx n).txStream = s.txStream := rfl
@[simp] theorem State.setIdx_pending : (s.setIdx n).pending = s.pending := rfl
@[simp] theorem State.setIdx_out : (s.setIdx n).out = s.out := rfl
end

section
variable (b : Bool) (s : State)
@[simp] theorem State.setMism_cfg : (s.setMism b).cfg = s.cfg := rfl
@[simp] theorem State.setMism_F : (s.setMism b).F = s.F := rfl
@[simp] theorem State.setMism_hsState : (s.setMism b).hsState = s.hsState := rfl
@[simp] theorem State.setMism_reason : (s.setMism b).reason = s.reason := rfl
@[simp] theorem State.setMism_blk : (s.setMism b).blk = s.blk := rfl
@[simp] theorem State.setMism_idx : (s.setMism b).idx = s.idx := rfl
@[simp] theorem State.setMism_mism : (s.setMism b).mism = b := rfl
@[simp] theorem State.setMism_txp : (s.setMism b).txp = s.txp := rfl
@[simp] theorem State.setMism_rxEnded : (s.setMism b).rxEnded = s.rxEnded := rfl
@[simp] theorem State.setMism_lr : (s.setMism b).lr = s.lr := rfl
@[simp] theorem State.setMism_rxStream : (s.setMism b).rxStream = s.rxStream := rfl
@[simp] theorem State.setMism_txStream : (s.setMism b).txStream = s.txStream := rfl
@[simp] theorem State.setMism_pending : (s.setMism b).pending = s.pending := rfl
@[simp] theorem State.setMism_out : (s.setMism b).out = s.out := rfl
end

section
variable (b : Bool) (s : State)
@[simp] theorem State.setTxp_cfg : (s.setTxp b).cfg = s.cfg := rfl
@[simp] theorem State.setTxp_F : (s.setTxp b).F = s.F := rfl
@[simp] theorem State.setTxp_hsState : (s.setTxp b).hsState = s.hsState := rfl
@[simp] theorem State.setTxp_reason : (s.setTxp b).reason = s.reason := rfl
@[simp] theorem State.setTxp_blk : (s.setTxp b).blk = s.blk := rfl
@[simp] theorem State.setTxp_idx : (s.setTxp b).idx = s.idx := rfl
@[simp] theorem State.setTxp_mism : (s.setTxp b).mism = s.mism := rfl
@[simp] theorem State.setTxp_txp : (s.setTxp b).txp = b := rfl
@[simp] theorem State.setTxp_rxEnded : (s.setTxp b).rxEnded = s.rxEnded := rfl
@[simp] theorem State.setTxp_lr : (s.setTxp b).lr = s.lr := rfl
@[simp] theorem State.setTxp_rxStream : (s.setTxp b).rxStream = s.rxStream := rfl
@[simp] theorem State.setTxp_txStream : (s.setTxp b).txStream = s.txStream := rfl
@[simp] theorem State.setTxp_pending : (s.setTxp b).pending = s.pending := rfl
@[simp] theorem State.setTxp_out : (s.setTxp b).out = s.out := rfl
end

section
variable (b : Bool) (s : State)
@[simp] theorem State.setRxEnded_cfg : (s.setRxEnded b).cfg = s.cfg := rfl
@[simp] theorem State.setRxEnded_F : (s.setRxEnded b).F = s.F := rfl
@[simp] theorem State.setRxEnded_hsState : (s.setRxEnded b).hsState = s.hsState := rfl
@[simp] theorem State.setRxEnded_reason : (s.setRxEnded b).reason = s.reason := rfl
@[simp] theorem State.setRxEnded_blk : (s.setRxEnded b).blk = s.blk := rfl
@[simp] theorem State.setRxEnded_idx : (s.setRxEnded b).idx = s.idx := rfl
@[simp] theorem State.setRxEnded_mism : (s.setRxEnded b).mism = s.mism := rfl
@[simp] theorem State.setRxEnded_txp : (s.setRxEnded b).txp = s.txp := rfl
@[simp] theorem State.setRxEnded_rxEnded : (s.setRxEnded b).rxEnded = b := rfl
@[simp] theorem State.setRxEnded_lr : (s.setRxEnded b).lr = s.lr := rfl
@[simp] theorem State.setRxEnded_rxStream : (s.setRxEnded b).rxStream = s.rxStream := rfl
@[simp] theorem State.setRxEnded_txStream : (s.setRxEnded b).txStream = s.txStream := rfl
@[simp] theorem State.setRxEnded_pending : (s.setRxEnded b).pending = s.pending := rfl
@[simp] theorem State.setRxEnded_out : (s.setRxEnded b).out = s.out := rfl
end

section
variable (l : LineReader) (s : State)
@[simp] theorem State.setLr_cfg : (s.setLr l).cfg = s.cfg := rfl
@[simp] theorem State.setLr_F : (s.setLr l).F = s.F := rfl
@[simp] theorem State.setLr_hsState : (s.setLr l).hsState = s.hsState := rfl
@[simp] theorem State.setLr_reason : (s.setLr l).reason = s.reason := rfl
@[simp] theorem State.setLr_blk : (s.setLr l).blk = s.blk := rfl
@[simp] theorem State.setLr_idx : (s.setLr l).idx = s.idx := rfl
@[simp] theorem State.setLr_mism : (s.setLr l).mism = s.mism := rfl
@[simp] theorem State.setLr_txp : (s.setLr l).txp = s.txp := rfl
@[simp] theorem State.setLr_rxEnded : (s.setLr l).rxEnded = s.rxEnded := rfl
@[simp] theorem State.setLr_lr : (s.setLr l).lr = l := rfl
@[simp] theorem State.setLr_rxStream : (s.setLr l).rxStream = s.rxStream := rfl
@[simp] theorem State.setLr_txStream : (s.setLr l).txStream = s.txStream := rfl
@[simp] theorem State.setLr_pending : (s.setLr l).pending = s.pending := rfl
@[simp] theorem State.setLr_out : (s.setLr l).out = s.out := rfl
end

section
variable (bs : List Byte) (s : State)
@[simp] theorem State.setRxStream_cfg : (s.setRxStream bs).cfg = s.cfg := rfl
@[simp] theorem State.setRxStream_F : (s.setRxStream bs).F = s.F := rfl
@[simp] theorem State.setRxStream_hsState : (s.setRxStream bs).hsState = s.hsState := rfl
@[simp] theorem State.setRxStream_reason : (s.setRxStream bs).reason = s.reason := rfl
@[simp] theorem State.setRxStream_blk : (s.setRxStream bs).blk = s.blk := rfl
@[simp] theorem State.setRxStream_idx : (s.setRxStream bs).idx = s.idx := rfl
@[simp] theorem State.setRxStream_mism : (s.setRxStream bs).mism = s.mism := rfl
@[simp] theorem State.setRxStream_txp : (s.setRxStream bs).txp = s.txp := rfl
@[simp] theorem State.setRxStream_rxEnded : (s.setRxStream bs).rxEnded = s.rxEnded := rfl
@[simp] theorem State.setRxStream_lr : (s.setRxStream bs).lr = s.lr := rfl
@[simp] theorem State.setRxStream_rxStream : (s.setRxStream bs).rxStream = bs := rfl
@[simp] theorem State.setRxStream_txStream : (s.setRxStream bs).txStream = s.txStream := rfl
@[simp] theorem State.setRxStream_pending : (s.setRxStream bs).pending = s.pending := rfl
@[simp] theorem State.setRxStream_out : (s.setRxStream bs).out = s.out := rfl
end

section
variable (b : Byte) (s : State)
@[simp] theorem State.transmit_cfg : (s.transmit b).cfg = s.cfg := rfl
@[simp] theorem State.transmit_F : (s.transmit b).F = s.F := rfl
@[simp] theorem State.transmit_hsState : (s.transmit b).hsState = s.hsState := rfl
@[simp] theorem State.transmit_reason : (s.transmit b).reason = s.reason := rfl
@[simp] theorem State.transmit_blk : (s.transmit b).blk = s.blk := rfl
@[simp] theorem State.transmit_idx : (s.transmit b).idx = s.idx := rfl
@[simp] theorem State.transmit_mism : (s.transmit b).mism = s.mism := rfl
@[simp] theorem State.transmit_txp : (s.transmit b).txp = s.txp := rfl
@[simp] theorem State.transmit_rxEnded : (s.transmit b).rxEnded = s.rxEnded := rfl
@[simp] theorem State.transmit_lr : (s.transmit b).lr = s.lr := rfl
@[simp] theorem State.transmit_rxStream : (s.transmit b).rxStream = s.rxStream := rfl
@[simp] theorem State.transmit_txStream : (s.transmit b).txStream = s.txStream ++ [b] := rfl
@[simp] theorem State.transmit_pending : (s.transmit b).pending = s.pending := rfl
@[simp] theorem State.transmit_out : (s.transmit b).out = s.out := rfl
end

section
variable (ps : List Input) (s : State)
@[simp] theorem State.setPending_cfg : (s.setPending ps).cfg = s.cfg := rfl
@[simp] theorem State.setPending_F : (s.setPending ps).F = s.F := rfl
@[simp] theorem State.setPending_hsState : (s.setPending ps).hsState = s.hsState := rfl
@[simp] theorem State.setPending_reason : (s.setPending ps).reason = s.reason := rfl
@[simp] theorem State.setPending_blk : (s.setPending ps).blk = s.blk := rfl
@[simp] theorem State.setPending_idx : (s.setPending ps).idx = s.idx := rfl
@[simp] theorem State.setPending_mism : (s.setPending ps).mism = s.mism := rfl
@[simp] theorem State.setPending_txp : (s.setPending ps).txp = s.txp := rfl
@[simp] theorem State.setPending_rxEnded : (s.setPending ps).rxEnded = s.rxEnded := rfl
@[simp] theorem State.setPending_lr : (s.setPending ps).lr = s.lr := rfl
@[simp] theorem State.setPending_rxStream : (s.setPending ps).rxStream = s.rxStream := rfl
@[simp] theorem State.setPending_txStream : (s.setPending ps).txStream = s.txStream := rfl
@[simp] theorem State.setPending_pending : (s.setPending ps).pending = ps := rfl
@[simp] theorem State.setPending_out : (s.setPending ps).out = s.out := rfl
end

section
variable  (s : State)
@[simp] theorem State.lineReset_cfg : s.lineReset.cfg = s.cfg := rfl
@[simp] theorem State.lineReset_F : s.lineReset.F = s.F := rfl
@[simp] theorem State.lineReset_hsState : s.lineReset.hsState = s.hsState := rfl
@[simp] theorem State.lineReset_reason : s.lineReset.reason = s.reason := rfl
@[simp] theorem State.lineReset_blk : s.lineReset.blk = s.blk := rfl
@[simp] theorem State.lineReset_idx : s.lineReset.idx = s.idx := rfl
@[simp] theorem State.lineReset_mism : s.lineReset.mism = s.mism := rfl
@[simp] theorem State.lineReset_txp : s.lineReset.txp = s.txp := rfl
@[simp] theorem State.lineReset_rxEnded : s.lineReset.rxEnded = s.rxEnded := rfl
@[simp] theorem State.lineReset_lr : s.lineReset.lr = LineReader.reset := rfl
@[simp] theorem State.lineReset_rxStream : s.lineReset.rxStream = s.rxStream := rfl
@[simp] theorem State.lineReset_txStream : s.lineReset.txStream = s.txStream := rfl
@[simp] theorem State.lineReset_pending : s.lineReset.pending = s.pending := rfl
@[simp] theorem State.lineReset_out : s.lineReset.out = s.out := rfl
end

section
variable (b : Byte) (s : State)
@[simp] theorem State.readLineByte_cfg : (s.readLineByte b).cfg = s.cfg := rfl
@[simp] theorem State.readLineByte_F : (s.readLineByte b).F = s.F := rfl
@[simp] theorem State.readLineByte_hsState : (s.readLineByte b).hsState = s.hsState := rfl
@[simp] theorem State.readLineByte_reason : (s.readLineByte b).reason = s.reason := rfl
@[simp] theorem State.readLineByte_blk : (s.readLineByte b).blk = s.blk := rfl
@[simp] theorem State.readLineByte_idx : (s.readLineByte b).idx = s.idx := rfl
@[simp] theorem State.readLineByte_mism : (s.readLineByte b).mism = s.mism := rfl
@[simp] theorem State.readLineByte_txp : (s.readLineByte b).txp = s.txp := rfl
@[simp] theorem State.readLineByte_rxEnded : (s.readLineByte b).rxEnded = s.rxEnded := rfl
@[simp] theorem State.readLineByte_lr : (s.readLineByte b).lr = s.lr.lineByte s.cfg.ws b := rfl
@[simp] theorem State.readLineByte_rxStream : (s.readLineByte b).rxStream = s.rxStream := rfl
@[simp] theorem State.readLineByte_txStream : (s.readLineByte b).txStream = s.txStream := rfl
@[simp] theorem State.readLineByte_pending : (s.readLineByte b).pending = s.pending := rfl
@[simp] theorem State.readLineByte_out : (s.readLineByte b).out = s.out := rfl
end

section
variable (r : Reason) (s : State)
@[simp] theorem State.fail_cfg : (s.fail r).cfg = s.cfg := rfl
@[simp] theorem State.fail_F : (s.fail r).F = s.F := rfl
@[simp] theorem State.fail_hsState : (s.fail r).hsState = .failed := rfl
@[simp] theorem State.fail_reason : (s.fail r).reason = r := rfl
@[simp] theorem State.fail_blk : (s.fail r).blk = s.blk := rfl
@[simp] theorem State.fail_idx : (s.fail r).idx = s.idx := rfl
@[simp] theorem State.fail_mism : (s.fail r).mism = s.mism := rfl
@[simp] theorem State.fail_txp : (s.fail r).txp = s.txp := rfl
@[simp] theorem State.fail_rxEnded : (s.fail r).rxEnded = s.rxEnded := rfl
@[simp] theorem State.fail_lr : (s.fail r).lr = s.lr := rfl
@[simp] theorem State.fail_rxStream : (s.fail r).rxStream = s.rxStream := rfl
@[simp] theorem State.fail_txStream : (s.fail r).txStream = s.txStream := rfl
@[simp] theorem State.fail_pending : (s.fail r).pending = s.pending := rfl
@[simp] theorem State.fail_out : (s.fail r).out = s.out := rfl
end

section
variable  (s : State)
@[simp] theorem State.wipeSession_cfg : s.wipeSession.cfg = s.cfg := rfl
@[simp] theorem State.wipeSession_F : s.wipeSession.F = s.F := rfl
@[simp] theorem State.wipeSession_hsState : s.wipeSession.hsState = s.hsState := rfl
@[simp] theorem State.wipeSession_reason : s.wipeSession.reason = .none := rfl
@[simp] theorem State.wipeSession_blk : s.wipeSession.blk = s.blk := rfl
@[simp] theorem State.wipeSession_idx : s.wipeSession.idx = 0 := rfl
@[simp] theorem State.wipeSession_mism : s.wipeSession.mism = false := rfl
@[simp] theorem State.wipeSession_txp : s.wipeSession.txp = false := rfl
@[simp] theorem State.wipeSession_rxEnded : s.wipeSession.rxEnded = false := rfl
@[simp] theorem State.wipeSession_lr : s.wipeSession.lr = LineReader.reset := rfl
@[simp] theorem State.wipeSession_rxStream : s.wipeSession.rxStream = s.rxStream := rfl
@[simp] theorem State.wipeSession_txStream : s.wipeSession.txStream = s.txStream := rfl
@[simp] theorem State.wipeSession_pending : s.wipeSession.pending = s.pending := rfl
@[simp] theorem State.wipeSession_out : s.wipeSession.out = s.out := rfl
end

section
variable  (s : State)
@[simp] theorem State.startSession_cfg : s.startSession.cfg = s.cfg := by cases s; rfl
@[simp] theorem State.startSession_F : s.startSession.F = s.F := by cases s; rfl
@[simp] theorem State.startSession_hsState : s.startSession.hsState = .awaitingReady := rfl
@[simp] theorem State.startSession_reason : s.startSession.reason = .none := rfl
@[simp] theorem State.startSession_blk : s.startSession.blk = Memory.ofBytes 0 (encodeBytes s.cfg.sidShift s.F) := rfl
@[simp] theorem State.startSession_idx : s.startSession.idx = 0 := rfl
@[simp] theorem State.startSession_mism : s.startSession.mism = false := rfl
@[simp] theorem State.startSession_txp : s.startSession.txp = false := rfl
@[simp] theorem State.startSession_rxEnded : s.startSession.rxEnded = false := rfl
@[simp] theorem State.startSession_lr : s.startSession.lr = LineReader.reset := rfl
@[simp] theorem State.startSession_rxStream : s.startSession.rxStream = s.rxStream := by cases s; rfl
@[simp] theorem State.startSession_txStream : s.startSession.txStream = s.txStream := by cases s; rfl
@[simp] theorem State.startSession_pending : s.startSession.pending = s.pending := by cases s; rfl
@[simp] theorem State.startSession_out : s.startSession.out = s.out := by cases s; rfl
end

section
variable  (s : State)
@[simp] theorem State.clearSession_cfg : s.clearSession.cfg = s.cfg := rfl
@[simp] theorem State.clearSession_F : s.clearSession.F = s.F := rfl
@[simp] theorem State.clearSession_hsState : s.clearSession.hsState = .idle := rfl
@[simp] theorem State.clearSession_reason : s.clearSession.reason = .none := rfl
@[simp] theorem State.clearSession_blk : s.clearSession.blk = [] := rfl
@[simp] theorem State.clearSession_idx : s.clearSession.idx = 0 := rfl
@[simp] theorem State.clearSession_mism : s.clearSession.mism = false := rfl
@[simp] theorem State.clearSession_txp : s.clearSession.txp = false := rfl
@[simp] theorem State.clearSession_rxEnded : s.clearSession.rxEnded = false := rfl
@[simp] theorem State.clearSession_lr : s.clearSession.lr = LineReader.reset := rfl
@[simp] theorem State.clearSession_rxStream : s.clearSession.rxStream = s.rxStream := rfl
@[simp] theorem State.clearSession_txStream : s.clearSession.txStream = s.txStream := rfl
@[simp] theorem State.clearSession_pending : s.clearSession.pending = s.pending := rfl
@[simp] theorem State.clearSession_out : s.clearSession.out = s.out := rfl
end

section
variable  (s : State)
@[simp] theorem State.resetDevice_cfg : s.resetDevice.cfg = s.cfg := rfl
@[simp] theorem State.resetDevice_F : s.resetDevice.F = Fields.zero := rfl
@[simp] theorem State.resetDevice_hsState : s.resetDevice.hsState = .idle := rfl
@[simp] theorem State.resetDevice_reason : s.resetDevice.reason = .none := rfl
@[simp] theorem State.resetDevice_blk : s.resetDevice.blk = [] := rfl
@[simp] theorem State.resetDevice_idx : s.resetDevice.idx = 0 := rfl
@[simp] theorem State.resetDevice_mism : s.resetDevice.mism = false := rfl
@[simp] theorem State.resetDevice_txp : s.resetDevice.txp = false := rfl
@[simp] theorem State.resetDevice_rxEnded : s.resetDevice.rxEnded = false := rfl
@[simp] theorem State.resetDevice_lr : s.resetDevice.lr = LineReader.reset := rfl
@[simp] theorem State.resetDevice_rxStream : s.resetDevice.rxStream = s.rxStream := rfl
@[simp] theorem State.resetDevice_txStream : s.resetDevice.txStream = s.txStream := rfl
@[simp] theorem State.resetDevice_pending : s.resetDevice.pending = s.pending := rfl
@[simp] theorem State.resetDevice_out : s.resetDevice.out = s.out := rfl
end

end Sys2Proof.Machine
end

