-- ==== Sys2Proof/Laws/Ops.lean ====
section
/-! SUPPORT. What each shared operation can do, said once: the host port, the conditional transitions, the verdicts on
a line, the comparison of an echo byte, the controller's transition on a byte, and the delivery of a stream. -/

namespace Sys2Proof.Machine

open Sys2Proof

/-! ### The host port -/

theorem hostRead_next {d : Word} {s t : State} (h : hostRead d s = .next t) : t = s.answer (.host d false) := by
  cases h; rfl

theorem hostWrite_next {s t : State} (h : hostWrite s = .next t) : t = s.answer (.host 0 false) := by
  cases h; rfl

theorem busError_next {s t : State} (h : busError s = .next t) : t = s.answer (.host 0 true) := by
  cases h; rfl

/-! ### Conditional transitions -/

/-- A conditional transition happens or changes nothing but the answer. -/
theorem whenEnabled_next {p : Prop} [Decidable p] {a s t : State} (h : whenEnabled p a s = .next t) :
    (p ∧ t = a.answer .silent) ∨ (¬p ∧ t = s.answer .noStep) := by
  unfold whenEnabled at h
  split at h
  · next hp => cases h; exact .inl ⟨hp, rfl⟩
  · next hp => cases h; exact .inr ⟨hp, rfl⟩

theorem whenEnabled_of {p : Prop} [Decidable p] (hp : p) (a s : State) :
    whenEnabled p a s = .next (a.answer .silent) := if_pos hp

theorem whenEnabled_of_not {p : Prop} [Decidable p] (hp : ¬p) (a s : State) :
    whenEnabled p a s = .next (s.answer .noStep) := if_neg hp

/-! ### Commands -/

theorem commandStart_of_busy {s : State} (h : s.busy = true) : s.commandStart = s := if_pos h

theorem commandStart_of_not_busy {s : State} (h : s.busy = false) : s.commandStart = s.startSession :=
  if_neg (by simp [h])

theorem commandClear_of_done {s : State} (h : s.done = true) : s.commandClear = s.clearSession := if_pos h

theorem commandClear_of_not_done {s : State} (h : s.done = false) : s.commandClear = s := if_neg (by simp [h])

/-- A command of CTRL is START accepted, CLEAR accepted, or nothing (R184, R194). -/
theorem commandCtrl_cases (v : Word) (s : State) :
    (s.busy = false ∧ s.commandCtrl v = s.startSession) ∨ (s.done = true ∧ s.commandCtrl v = s.clearSession) ∨
      s.commandCtrl v = s := by
  unfold State.commandCtrl
  split
  · cases hb : s.busy with
    | true => exact .inr (.inr (commandStart_of_busy hb))
    | false => exact .inl ⟨rfl, commandStart_of_not_busy hb⟩
  · split
    · cases hd : s.done with
      | true => exact .inr (.inl ⟨rfl, commandClear_of_done hd⟩)
      | false => exact .inr (.inr (commandClear_of_not_done hd))
    · exact .inr (.inr rfl)

/-! ### Verdicts -/

theorem judgeReady_of_match {s : State} (h : s.isReadyLine = true) : s.judgeReady = s.readyMatch := if_pos h

theorem judgeReady_of_other {s : State} (h : s.isReadyLine = false) : s.judgeReady = s.readyOther :=
  if_neg (by simp [h])

theorem judgeDone_of_match {s : State} (h : s.isDoneLine = true) : s.judgeDone = s.doneMatch := if_pos h

theorem judgeDone_of_other {s : State} (h : s.isDoneLine = false) : s.judgeDone = s.doneOther :=
  if_neg (by simp [h])

/-- The comparison of an echo byte writes `mism` and nothing else (R220). -/
theorem compareEcho_eq (b : Byte) (s : State) :
    s.compareEcho b = s.setMism (s.mism || decide (b ≠ s.blkAtIdx)) := by
  unfold State.compareEcho
  split
  · next h => simp [h, State.setMism]
  · next h => simp [h]

/-! ### The controller's transition on a byte -/

/-- Where the controller takes a byte it does one of six things (R214 to R216, R220, R221, R225 to R227). -/
theorem rxTransition_cases {b : Byte} {s t : State} (h : s.rxTransition b = some t) :
    ((s.hsState = .awaitingReady ∨ s.hsState = .awaitingDone) ∧ b ≠ Config.nl ∧ t = s.readLineByte b) ∨
    (s.hsState = .awaitingReady ∧ b = Config.nl ∧ t = s.judgeReady) ∨
    (s.hsState = .awaitingDone ∧ b = Config.nl ∧ t = s.judgeDone) ∨
    (s.readingEcho ∧ s.idx < 15 ∧ t = s.echoByte b) ∨
    (s.readingEcho ∧ s.idx = 15 ∧ t = s.echoLast b) := by
  unfold State.rxTransition at h
  split at h
  · next hs =>
    cases h
    split
    · next hb => exact .inr (.inl ⟨hs, hb, rfl⟩)
    · next hb => exact .inl ⟨.inl hs, hb, rfl⟩
  · next hs =>
    cases h
    split
    · next hb => exact .inr (.inr (.inl ⟨hs, hb, rfl⟩))
    · next hb => exact .inl ⟨.inr hs, hb, rfl⟩
  · next hs =>
    cases ht : s.txp with
    | true => simp [ht] at h
    | false =>
      simp only [ht, Bool.false_eq_true, if_false] at h
      split at h
      · next hi => cases h; exact .inr (.inr (.inr (.inl ⟨⟨hs, ht⟩, hi, rfl⟩)))
      · split at h
        · next hi => cases h; exact .inr (.inr (.inr (.inr ⟨⟨hs, ht⟩, hi, rfl⟩)))
        · cases h
  all_goals cases h

/-- What no transition on a byte touches. -/
structure State.SameOutside (s t : State) : Prop where
  cfg : t.cfg = s.cfg
  F : t.F = s.F
  blk : t.blk = s.blk
  rxEnded : t.rxEnded = s.rxEnded
  txStream : t.txStream = s.txStream
  pending : t.pending = s.pending

theorem State.SameOutside.refl (s : State) : s.SameOutside s := ⟨rfl, rfl, rfl, rfl, rfl, rfl⟩

theorem State.SameOutside.trans {s t u : State} (h : s.SameOutside t) (k : t.SameOutside u) : s.SameOutside u :=
  ⟨k.cfg.trans h.cfg, k.F.trans h.F, k.blk.trans h.blk, k.rxEnded.trans h.rxEnded, k.txStream.trans h.txStream,
    k.pending.trans h.pending⟩

theorem judgeReady_sameOutside (s : State) : s.SameOutside s.judgeReady := by
  cases h : s.isReadyLine with
  | true => rw [judgeReady_of_match h]; exact ⟨rfl, rfl, rfl, rfl, rfl, rfl⟩
  | false => rw [judgeReady_of_other h]; exact ⟨rfl, rfl, rfl, rfl, rfl, rfl⟩

theorem judgeDone_sameOutside (s : State) : s.SameOutside s.judgeDone := by
  cases h : s.isDoneLine with
  | true => rw [judgeDone_of_match h]; exact ⟨rfl, rfl, rfl, rfl, rfl, rfl⟩
  | false => rw [judgeDone_of_other h]; exact ⟨rfl, rfl, rfl, rfl, rfl, rfl⟩

theorem rxTransition_sameOutside {b : Byte} {s t : State} (h : s.rxTransition b = some t) : s.SameOutside t := by
  rcases rxTransition_cases h with ⟨_, _, rfl⟩ | ⟨_, _, rfl⟩ | ⟨_, _, rfl⟩ | ⟨_, _, rfl⟩ | ⟨_, _, rfl⟩
  · exact ⟨rfl, rfl, rfl, rfl, rfl, rfl⟩
  · exact judgeReady_sameOutside s
  · exact judgeDone_sameOutside s
  · rw [State.echoByte, compareEcho_eq]; exact ⟨rfl, rfl, rfl, rfl, rfl, rfl⟩
  · rw [State.echoLast, compareEcho_eq]; exact ⟨rfl, rfl, rfl, rfl, rfl, rfl⟩

/-- The answer of the step before plays no part in a transition on a byte. -/
theorem rxTransition_answer (b : Byte) (o : Output) (s : State) :
    (s.answer o).rxTransition b = (s.rxTransition b).map (State.answer o) := by
  have hc : (s.answer o).compareEcho b = (s.compareEcho b).answer o := by
    rw [compareEcho_eq, compareEcho_eq]; rfl
  have hr : (s.answer o).judgeReady = s.judgeReady.answer o := by
    unfold State.judgeReady; rw [apply_ite (State.answer o)]; rfl
  have hd : (s.answer o).judgeDone = s.judgeDone.answer o := by
    unfold State.judgeDone; rw [apply_ite (State.answer o)]; rfl
  unfold State.rxTransition State.echoByte State.echoLast
  rw [hc, hr, hd]
  cases hs : s.hsState <;> simp only [State.answer_hsState, hs, Option.map_none, Option.map_some]
  case awaitingReady => split <;> rfl
  case awaitingDone => split <;> rfl
  case verifyingEcho => simp only [State.answer_txp, State.answer_idx, apply_ite (Option.map (State.answer o))]; rfl

/-! ### Delivery -/

@[simp] theorem deliver_nil (s : State) : State.deliver [] s = .next ((s.setRxStream []).answer .silent) := rfl

/-- What the controller does not read waits, in order (R65). -/
theorem deliver_not_ready {s : State} (h : s.rxReady = false) (bs : List Byte) :
    State.deliver bs s = .next ((s.setRxStream bs).answer .silent) := by
  cases bs with
  | nil => rfl
  | cons b bs => rw [State.deliver, h]; rfl

/-- A byte that the controller takes. -/
theorem deliver_cons {b : Byte} {bs : List Byte} {s t : State} (h : s.rxReady = true)
    (ht : s.rxTransition b = some t) : State.deliver (b :: bs) s = State.deliver bs t := by
  rw [State.deliver, h, ht]; rfl

/-- Nor does the answer of the step before play a part in a delivery. -/
theorem deliver_answer (bs : List Byte) (o : Output) (s : State) :
    State.deliver bs (s.answer o) = State.deliver bs s := by
  induction bs generalizing s with
  | nil => rfl
  | cons b bs ih =>
    rw [State.deliver, State.deliver, rxTransition_answer]
    change (if s.rxReady = true then _ else _) = _
    split
    · cases s.rxTransition b with
      | some t => exact ih t
      | none => rfl
    · rfl

/-- Delivery leaves alone what no transition on a byte touches. -/
theorem deliver_sameOutside {bs : List Byte} {s t : State} (h : State.deliver bs s = .next t) :
    s.SameOutside t := by
  induction bs generalizing s with
  | nil => cases h; exact ⟨rfl, rfl, rfl, rfl, rfl, rfl⟩
  | cons b bs ih =>
    rw [State.deliver] at h
    split at h
    · split at h
      · next s' hs => exact (rxTransition_sameOutside hs).trans (ih h)
      · cases h
    · cases h; exact ⟨rfl, rfl, rfl, rfl, rfl, rfl⟩

/-- A property of states that every transition on a byte and every change of the stream and the answer keep is kept by
delivery. -/
theorem deliver_induction {P : State → Prop} (hstep : ∀ b s t, P s → s.rxTransition b = some t → P t)
    (hend : ∀ s bs, P s → P ((s.setRxStream bs).answer .silent)) {bs : List Byte} {s t : State} (hs : P s)
    (h : State.deliver bs s = .next t) : P t := by
  induction bs generalizing s with
  | nil => cases h; exact hend _ _ hs
  | cons b bs ih =>
    rw [State.deliver] at h
    split at h
    · split at h
      · next s' hs' => exact ih (hstep _ _ _ hs hs') h
      · cases h
    · cases h; exact hend _ _ hs

end Sys2Proof.Machine
end

