-- ==== Sys2Proof/Laws/PerInstr.lean ====
section
/-! SUPPORT. A family of statements about every operation as syntax: the row's format in spec/opcode_table.json, and that
the encoder gives a HOSTXN row a host transaction, a row of the transition table an event of the device, and every
other row a word of the model's own. -/

namespace Sys2Proof.Laws

open Sys2Proof

/-- The column "format" of the row. -/
def formatOf : Instr → Format
  | .encode => .block
  | .byte0 => .blockByte
  | .byte1 => .blockByte
  | .byte2 => .blockByte
  | .byte3 => .blockByte
  | .byte4 => .blockByte
  | .byte5 => .blockByte
  | .byte6to15 => .blockByte
  | .p1 => .piece
  | .p2 => .piece
  | .p3 => .piece
  | .p4 => .piece
  | .p5 => .piece
  | .p6 => .piece
  | .p7 => .piece
  | .p8 => .piece
  | .p9 => .piece
  | .p10 => .piece
  | .p11 => .piece
  | .p12 => .piece
  | .p13 => .piece
  | .oorFlags => .flags
  | .decode _ => .block
  | .abort => .signal
  | .proceed => .signal
  | .litReady => .line
  | .litDone => .line
  | .nl => .line
  | .ws _ => .line
  | .wrFBlockId _ => .hostXn
  | .rdFBlockId => .hostXn
  | .wrFAsdoEnabled _ => .hostXn
  | .rdFAsdoEnabled => .hostXn
  | .wrFApproachDirection _ => .hostXn
  | .rdFApproachDirection => .hostXn
  | .wrFVersion _ => .hostXn
  | .rdFVersion => .hostXn
  | .wrFApplicationCode _ => .hostXn
  | .rdFApplicationCode => .hostXn
  | .wrFDoorEnable _ => .hostXn
  | .rdFDoorEnable => .hostXn
  | .wrFStopZoneLength _ => .hostXn
  | .rdFStopZoneLength => .hostXn
  | .wrFStationId _ => .hostXn
  | .rdFStationId => .hostXn
  | .wrFPlatformId _ => .hostXn
  | .rdFPlatformId => .hostXn
  | .rdEncHi => .hostXn
  | .wrEncHi _ => .hostXn
  | .rdEncLo => .hostXn
  | .wrEncLo _ => .hostXn
  | .rdStatus => .hostXn
  | .wrStatus _ => .hostXn
  | .rdSentHi => .hostXn
  | .wrSentHi _ => .hostXn
  | .rdSentLo => .hostXn
  | .wrSentLo _ => .hostXn
  | .rdDetail0 => .hostXn
  | .wrDetail0 _ => .hostXn
  | .rdDetail1 => .hostXn
  | .wrDetail1 _ => .hostXn
  | .rdDetail2 => .hostXn
  | .wrDetail2 _ => .hostXn
  | .rdDetail3 => .hostXn
  | .wrDetail3 _ => .hostXn
  | .rdDetail4 => .hostXn
  | .wrDetail4 _ => .hostXn
  | .rdDetail5 => .hostXn
  | .wrDetail5 _ => .hostXn
  | .rdDetail6 => .hostXn
  | .wrDetail6 _ => .hostXn
  | .rdDetail7 => .hostXn
  | .wrDetail7 _ => .hostXn
  | .rdCtrl => .hostXn
  | .start _ => .hostXn
  | .clear _ => .hostXn
  | .wrCtrlNoCommand _ => .hostXn
  | .unmapped9 _ _ => .hostXn
  | .unmapped24to31 _ _ _ => .hostXn
  | .arByte _ => .transition
  | .arNlMatch => .transition
  | .arNlOther => .transition
  | .arEnd => .transition
  | .sendByte => .transition
  | .sendLast => .transition
  | .echoByte _ => .transition
  | .echoLast _ => .transition
  | .echoEnd => .transition
  | .verdictProceed => .transition
  | .verdictAbort => .transition
  | .adByte _ => .transition
  | .adNlMatch => .transition
  | .adNlOther => .transition
  | .adEnd => .transition
  | .lineByte _ => .transition
  | .lineReset => .transition
  | .fail _ => .transition
  | .reset => .transition
  | .ctrl _ => .register
  | .status => .register

/-- Whether an event can carry an operation of the format. The sub-operations of the transition table (LINEBYTE,
LINE_RESET, FAIL) are carried by no event of the device, so a word of the model's own carries them. -/
def carries : Format → Event → Bool
  | .hostXn, .hostXn _ => true
  | .hostXn, _ => false
  | .transition, .rxByte _ => true
  | .transition, .rxEnd => true
  | .transition, .txAccept => true
  | .transition, .reset => true
  | .transition, .op row _ => decide (95 ≤ row.toNat ∧ row.toNat ≤ 97)
  | .transition, _ => false
  | _, .op _ _ => true
  | _, _ => false

/-- The event that the encoder gives an operation is one that carries the row's format. -/
def EncodedForm.Statement (i : Instr) : Prop := carries (formatOf i) (encode i).2 = true

theorem EncodedForm.encode : EncodedForm.Statement .encode := rfl
theorem EncodedForm.byte0 : EncodedForm.Statement .byte0 := rfl
theorem EncodedForm.byte1 : EncodedForm.Statement .byte1 := rfl
theorem EncodedForm.byte2 : EncodedForm.Statement .byte2 := rfl
theorem EncodedForm.byte3 : EncodedForm.Statement .byte3 := rfl
theorem EncodedForm.byte4 : EncodedForm.Statement .byte4 := rfl
theorem EncodedForm.byte5 : EncodedForm.Statement .byte5 := rfl
theorem EncodedForm.byte6to15 : EncodedForm.Statement .byte6to15 := rfl
theorem EncodedForm.p1 : EncodedForm.Statement .p1 := rfl
theorem EncodedForm.p2 : EncodedForm.Statement .p2 := rfl
theorem EncodedForm.p3 : EncodedForm.Statement .p3 := rfl
theorem EncodedForm.p4 : EncodedForm.Statement .p4 := rfl
theorem EncodedForm.p5 : EncodedForm.Statement .p5 := rfl
theorem EncodedForm.p6 : EncodedForm.Statement .p6 := rfl
theorem EncodedForm.p7 : EncodedForm.Statement .p7 := rfl
theorem EncodedForm.p8 : EncodedForm.Statement .p8 := rfl
theorem EncodedForm.p9 : EncodedForm.Statement .p9 := rfl
theorem EncodedForm.p10 : EncodedForm.Statement .p10 := rfl
theorem EncodedForm.p11 : EncodedForm.Statement .p11 := rfl
theorem EncodedForm.p12 : EncodedForm.Statement .p12 := rfl
theorem EncodedForm.p13 : EncodedForm.Statement .p13 := rfl
theorem EncodedForm.oorFlags : EncodedForm.Statement .oorFlags := rfl
theorem EncodedForm.decode (x : Block) : EncodedForm.Statement (.decode x) := rfl
theorem EncodedForm.abort : EncodedForm.Statement .abort := rfl
theorem EncodedForm.proceed : EncodedForm.Statement .proceed := rfl
theorem EncodedForm.litReady : EncodedForm.Statement .litReady := rfl
theorem EncodedForm.litDone : EncodedForm.Statement .litDone := rfl
theorem EncodedForm.nl : EncodedForm.Statement .nl := rfl
theorem EncodedForm.ws (b : Byte) : EncodedForm.Statement (.ws b) := rfl
theorem EncodedForm.wrFBlockId (v : Word) : EncodedForm.Statement (.wrFBlockId v) := rfl
theorem EncodedForm.rdFBlockId : EncodedForm.Statement .rdFBlockId := rfl
theorem EncodedForm.wrFAsdoEnabled (v : Word) : EncodedForm.Statement (.wrFAsdoEnabled v) := rfl
theorem EncodedForm.rdFAsdoEnabled : EncodedForm.Statement .rdFAsdoEnabled := rfl
theorem EncodedForm.wrFApproachDirection (v : Word) : EncodedForm.Statement (.wrFApproachDirection v) := rfl
theorem EncodedForm.rdFApproachDirection : EncodedForm.Statement .rdFApproachDirection := rfl
theorem EncodedForm.wrFVersion (v : Word) : EncodedForm.Statement (.wrFVersion v) := rfl
theorem EncodedForm.rdFVersion : EncodedForm.Statement .rdFVersion := rfl
theorem EncodedForm.wrFApplicationCode (v : Word) : EncodedForm.Statement (.wrFApplicationCode v) := rfl
theorem EncodedForm.rdFApplicationCode : EncodedForm.Statement .rdFApplicationCode := rfl
theorem EncodedForm.wrFDoorEnable (v : Word) : EncodedForm.Statement (.wrFDoorEnable v) := rfl
theorem EncodedForm.rdFDoorEnable : EncodedForm.Statement .rdFDoorEnable := rfl
theorem EncodedForm.wrFStopZoneLength (v : Word) : EncodedForm.Statement (.wrFStopZoneLength v) := rfl
theorem EncodedForm.rdFStopZoneLength : EncodedForm.Statement .rdFStopZoneLength := rfl
theorem EncodedForm.wrFStationId (v : Word) : EncodedForm.Statement (.wrFStationId v) := rfl
theorem EncodedForm.rdFStationId : EncodedForm.Statement .rdFStationId := rfl
theorem EncodedForm.wrFPlatformId (v : Word) : EncodedForm.Statement (.wrFPlatformId v) := rfl
theorem EncodedForm.rdFPlatformId : EncodedForm.Statement .rdFPlatformId := rfl
theorem EncodedForm.rdEncHi : EncodedForm.Statement .rdEncHi := rfl
theorem EncodedForm.wrEncHi (v : Word) : EncodedForm.Statement (.wrEncHi v) := rfl
theorem EncodedForm.rdEncLo : EncodedForm.Statement .rdEncLo := rfl
theorem EncodedForm.wrEncLo (v : Word) : EncodedForm.Statement (.wrEncLo v) := rfl
theorem EncodedForm.rdStatus : EncodedForm.Statement .rdStatus := rfl
theorem EncodedForm.wrStatus (v : Word) : EncodedForm.Statement (.wrStatus v) := rfl
theorem EncodedForm.rdSentHi : EncodedForm.Statement .rdSentHi := rfl
theorem EncodedForm.wrSentHi (v : Word) : EncodedForm.Statement (.wrSentHi v) := rfl
theorem EncodedForm.rdSentLo : EncodedForm.Statement .rdSentLo := rfl
theorem EncodedForm.wrSentLo (v : Word) : EncodedForm.Statement (.wrSentLo v) := rfl
theorem EncodedForm.rdDetail0 : EncodedForm.Statement .rdDetail0 := rfl
theorem EncodedForm.wrDetail0 (v : Word) : EncodedForm.Statement (.wrDetail0 v) := rfl
theorem EncodedForm.rdDetail1 : EncodedForm.Statement .rdDetail1 := rfl
theorem EncodedForm.wrDetail1 (v : Word) : EncodedForm.Statement (.wrDetail1 v) := rfl
theorem EncodedForm.rdDetail2 : EncodedForm.Statement .rdDetail2 := rfl
theorem EncodedForm.wrDetail2 (v : Word) : EncodedForm.Statement (.wrDetail2 v) := rfl
theorem EncodedForm.rdDetail3 : EncodedForm.Statement .rdDetail3 := rfl
theorem EncodedForm.wrDetail3 (v : Word) : EncodedForm.Statement (.wrDetail3 v) := rfl
theorem EncodedForm.rdDetail4 : EncodedForm.Statement .rdDetail4 := rfl
theorem EncodedForm.wrDetail4 (v : Word) : EncodedForm.Statement (.wrDetail4 v) := rfl
theorem EncodedForm.rdDetail5 : EncodedForm.Statement .rdDetail5 := rfl
theorem EncodedForm.wrDetail5 (v : Word) : EncodedForm.Statement (.wrDetail5 v) := rfl
theorem EncodedForm.rdDetail6 : EncodedForm.Statement .rdDetail6 := rfl
theorem EncodedForm.wrDetail6 (v : Word) : EncodedForm.Statement (.wrDetail6 v) := rfl
theorem EncodedForm.rdDetail7 : EncodedForm.Statement .rdDetail7 := rfl
theorem EncodedForm.wrDetail7 (v : Word) : EncodedForm.Statement (.wrDetail7 v) := rfl
theorem EncodedForm.rdCtrl : EncodedForm.Statement .rdCtrl := rfl
theorem EncodedForm.start (v : Word) : EncodedForm.Statement (.start v) := rfl
theorem EncodedForm.clear (v : Word) : EncodedForm.Statement (.clear v) := rfl
theorem EncodedForm.wrCtrlNoCommand (v : Word) : EncodedForm.Statement (.wrCtrlNoCommand v) := rfl
theorem EncodedForm.unmapped9 (write : Bool) (v : Word) : EncodedForm.Statement (.unmapped9 write v) := rfl
theorem EncodedForm.unmapped24to31 (write : Bool) (low : BitVec 3) (v : Word) : EncodedForm.Statement (.unmapped24to31 write low v) := rfl
theorem EncodedForm.arByte (b : Byte) : EncodedForm.Statement (.arByte b) := rfl
theorem EncodedForm.arNlMatch : EncodedForm.Statement .arNlMatch := rfl
theorem EncodedForm.arNlOther : EncodedForm.Statement .arNlOther := rfl
theorem EncodedForm.arEnd : EncodedForm.Statement .arEnd := rfl
theorem EncodedForm.sendByte : EncodedForm.Statement .sendByte := rfl
theorem EncodedForm.sendLast : EncodedForm.Statement .sendLast := rfl
theorem EncodedForm.echoByte (b : Byte) : EncodedForm.Statement (.echoByte b) := rfl
theorem EncodedForm.echoLast (b : Byte) : EncodedForm.Statement (.echoLast b) := rfl
theorem EncodedForm.echoEnd : EncodedForm.Statement .echoEnd := rfl
theorem EncodedForm.verdictProceed : EncodedForm.Statement .verdictProceed := rfl
theorem EncodedForm.verdictAbort : EncodedForm.Statement .verdictAbort := rfl
theorem EncodedForm.adByte (b : Byte) : EncodedForm.Statement (.adByte b) := rfl
theorem EncodedForm.adNlMatch : EncodedForm.Statement .adNlMatch := rfl
theorem EncodedForm.adNlOther : EncodedForm.Statement .adNlOther := rfl
theorem EncodedForm.adEnd : EncodedForm.Statement .adEnd := rfl
theorem EncodedForm.lineByte (b : Byte) : EncodedForm.Statement (.lineByte b) := rfl
theorem EncodedForm.lineReset : EncodedForm.Statement .lineReset := rfl
theorem EncodedForm.fail (r : Reason) : EncodedForm.Statement (.fail r) := rfl
theorem EncodedForm.reset : EncodedForm.Statement .reset := rfl
theorem EncodedForm.ctrl (v : Word) : EncodedForm.Statement (.ctrl v) := rfl
theorem EncodedForm.status : EncodedForm.Statement .status := rfl

end Sys2Proof.Laws
end

