-- ==== Sys2Proof/Laws/Step.lean ====
section
/-! SUPPORT. What a step can do, said once: an input that reaches the device as no event, or an event that the decoder
turns into an operation; and that every step is a run of the six step labels of R8. -/

namespace Sys2Proof.Machine

open Sys2Proof

/-- What the fetch leaves alone of a state: everything but the pending inputs, the receive stream and the answer. -/
structure State.FetchedFrom (s t : State) : Prop where
  cfg : t.cfg = s.cfg
  F : t.F = s.F
  hsState : t.hsState = s.hsState
  reason : t.reason = s.reason
  blk : t.blk = s.blk
  idx : t.idx = s.idx
  mism : t.mism = s.mism
  txp : t.txp = s.txp
  rxEnded : t.rxEnded = s.rxEnded
  lr : t.lr = s.lr
  txStream : t.txStream = s.txStream

/-- The fetch changes no element of R20 and not the transmit stream. -/
theorem fetch_fetchedFrom (s : State) :
    (∀ t, fetch s = .quiet t → s.FetchedFrom t) ∧ (∀ e t, fetch s = .event e t → s.FetchedFrom t) := by
  have hself : s.FetchedFrom s := ⟨rfl, rfl, rfl, rfl, rfl, rfl, rfl, rfl, rfl, rfl, rfl⟩
  unfold fetch
  constructor
  · intro t h
    split at h
    case h_1 => cases h; exact hself
    case h_5 => split at h <;> cases h; exact ⟨rfl, rfl, rfl, rfl, rfl, rfl, rfl, rfl, rfl, rfl, rfl⟩
    case h_6 => split at h <;> cases h; exact ⟨rfl, rfl, rfl, rfl, rfl, rfl, rfl, rfl, rfl, rfl, rfl⟩
    case h_7 => split at h <;> cases h; exact ⟨rfl, rfl, rfl, rfl, rfl, rfl, rfl, rfl, rfl, rfl, rfl⟩
    case h_10 => split at h <;> cases h; exact ⟨rfl, rfl, rfl, rfl, rfl, rfl, rfl, rfl, rfl, rfl, rfl⟩
    all_goals cases h <;> exact ⟨rfl, rfl, rfl, rfl, rfl, rfl, rfl, rfl, rfl, rfl, rfl⟩
  · intro e t h
    split at h
    case h_5 => split at h <;> cases h; exact ⟨rfl, rfl, rfl, rfl, rfl, rfl, rfl, rfl, rfl, rfl, rfl⟩
    case h_6 => split at h <;> cases h; exact ⟨rfl, rfl, rfl, rfl, rfl, rfl, rfl, rfl, rfl, rfl, rfl⟩
    case h_7 => split at h <;> cases h; exact ⟨rfl, rfl, rfl, rfl, rfl, rfl, rfl, rfl, rfl, rfl, rfl⟩
    case h_10 => split at h <;> cases h; exact ⟨rfl, rfl, rfl, rfl, rfl, rfl, rfl, rfl, rfl, rfl, rfl⟩
    all_goals cases h <;> exact ⟨rfl, rfl, rfl, rfl, rfl, rfl, rfl, rfl, rfl, rfl, rfl⟩

/-- A step that answers a next state either fetched no event, or ran the operation that the decoder read. -/
theorem step_next_cases {s t : State} (h : step s = .next t) :
    fetch s = .quiet t ∨
      ∃ e s' i, fetch s = .event e s' ∧ decode s'.controlPoint e = .instr i ∧ exec i s' = .next t := by
  unfold step at h
  split at h
  · next s' hf => cases h; exact .inl hf
  · next e s' hf =>
    unfold runEvent at h
    split at h
    · next i hd => exact .inr ⟨e, s', i, hf, hd, h⟩
    · next r _ => cases r <;> cases h

/-- An event is run by the operation that the decoder reads. -/
theorem runEvent_of_decode {e : Event} {s : State} {i : Instr} (h : decode s.controlPoint e = .instr i) :
    runEvent e s = exec i s := by
  unfold runEvent; rw [h]

/-- The step runs the event that the fetch takes. -/
theorem step_of_event {e : Event} {s s' : State} (h : fetch s = .event e s') : step s = runEvent e s' := by
  unfold step; rw [h]

/-- An input that is no event of the device passes. -/
theorem step_of_quiet {s s' : State} (h : fetch s = .quiet s') : step s = .next s' := by
  unfold step; rw [h]

/-! ### Runs of events -/

@[simp] theorem runEvents_nil (s : State) : runEvents [] s = .next s := rfl

/-- The first event of a run, where it answers a next state. -/
theorem runEvents_cons {e : Event} {es : List Event} {s t : State} (h : runEvent e s = .next t) :
    runEvents (e :: es) s = runEvents es t := by
  rw [runEvents, h]

/-- A run in two parts. -/
theorem runEvents_append {es fs : List Event} {s t : State} (h : runEvents es s = .next t) :
    runEvents (es ++ fs) s = runEvents fs t := by
  induction es generalizing s with
  | nil => cases h; rfl
  | cons e es ih =>
    rw [List.cons_append, runEvents]
    rw [runEvents] at h
    split at h
    · exact ih h
    · cases h
    · cases h

/-! ### Every step is a run of the step labels of R8 -/

/-- `RxByte` runs the controller's transition on the byte (R234). -/
theorem runEvent_rxByte {b : Byte} {s t : State} (h : s.rxTransition b = some t) :
    runEvent (.rxByte b) s = .next (t.answer .silent) := by
  rcases rxTransition_cases h with ⟨hs | hs, hb, rfl⟩ | ⟨hs, rfl, rfl⟩ | ⟨hs, rfl, rfl⟩ | ⟨hs, hi, rfl⟩ | ⟨hs, hi, rfl⟩
  · rw [runEvent_of_decode (i := .arByte b) (by simp [decode, decodeRxByte, State.controlPoint, hs, hb])]
    exact whenEnabled_of ⟨hs, hb⟩ _ _
  · rw [runEvent_of_decode (i := .adByte b) (by simp [decode, decodeRxByte, State.controlPoint, hs, hb])]
    exact whenEnabled_of ⟨hs, hb⟩ _ _
  · cases hl : s.isReadyLine with
    | true =>
      rw [runEvent_of_decode (i := .arNlMatch) (by simp [decode, decodeRxByte, State.controlPoint, hs, hl]),
        judgeReady_of_match hl]
      exact whenEnabled_of ⟨hs, hl⟩ _ _
    | false =>
      rw [runEvent_of_decode (i := .arNlOther) (by simp [decode, decodeRxByte, State.controlPoint, hs, hl]),
        judgeReady_of_other hl]
      exact whenEnabled_of ⟨hs, hl⟩ _ _
  · cases hl : s.isDoneLine with
    | true =>
      rw [runEvent_of_decode (i := .adNlMatch) (by simp [decode, decodeRxByte, State.controlPoint, hs, hl]),
        judgeDone_of_match hl]
      exact whenEnabled_of ⟨hs, hl⟩ _ _
    | false =>
      rw [runEvent_of_decode (i := .adNlOther) (by simp [decode, decodeRxByte, State.controlPoint, hs, hl]),
        judgeDone_of_other hl]
      exact whenEnabled_of ⟨hs, hl⟩ _ _
  · rw [runEvent_of_decode (i := .echoByte b)
      (by simp only [decode, decodeRxByte, State.controlPoint, hs.1, hs.2, hi, Bool.false_eq_true, if_true, if_false])]
    exact whenEnabled_of ⟨hs, hi⟩ _ _
  · rw [runEvent_of_decode (i := .echoLast b)
      (by simp [decode, decodeRxByte, State.controlPoint, hs.1, hs.2, hi])]
    exact whenEnabled_of ⟨hs, hi⟩ _ _

/-- A delivery is the run of `RxByte` of its bytes for as long as the controller reads. -/
theorem deliver_delivers {bs : List Byte} {s t : State} (h : State.deliver bs s = .next t) : s.Delivers bs t := by
  induction bs generalizing s with
  | nil => cases h; exact ⟨0, s, Nat.le_refl _, rfl, .inl rfl, rfl⟩
  | cons b bs ih =>
    cases hr : s.rxReady with
    | false =>
      rw [deliver_not_ready hr] at h
      cases h
      exact ⟨0, s, Nat.zero_le _, rfl, .inr hr, rfl⟩
    | true =>
      cases hb : s.rxTransition b with
      | none => rw [State.deliver, hr, hb] at h; cases h
      | some s' =>
        rw [deliver_cons hr hb, ← deliver_answer bs .silent] at h
        obtain ⟨k, u, hk, hrun, hend, ht⟩ := ih h
        exact ⟨k + 1, u, Nat.succ_le_succ hk, (runEvents_cons (runEvent_rxByte hb)).trans hrun,
          hend.imp (congrArg (· + 1)) id, ht⟩

/-- `t` differs from the end of a run of step labels of R8 in the answer and what waits in the channel at most. -/
def State.RunsTo (s t : State) : Prop :=
  ∃ (es : List Event) (u : State), es.all Event.isLabel = true ∧ runEvents es s = .next u ∧
    t = { u with rxStream := t.rxStream, out := t.out }

/-- An evaluation is the empty run. -/
theorem runsTo_answer (o : Output) (s : State) : s.RunsTo (s.answer o) := ⟨[], s, rfl, rfl, rfl⟩

/-- A step label is a run of itself. -/
theorem runsTo_of_label {e : Event} {s t : State} (he : e.isLabel = true) (h : runEvent e s = .next t) :
    s.RunsTo t :=
  ⟨[e], t, by simp [he], by rw [runEvents_cons h]; rfl, rfl⟩

/-- So is an operation that is a step label's under the guard of its row. -/
theorem runsTo_of_whenEnabled {p : Prop} [Decidable p] {e : Event} {a s t : State} (he : e.isLabel = true)
    (hp : p → runEvent e s = .next (a.answer .silent)) (h : whenEnabled p a s = .next t) : s.RunsTo t := by
  rcases whenEnabled_next h with ⟨hq, rfl⟩ | ⟨_, rfl⟩
  · exact runsTo_of_label he (hp hq)
  · exact runsTo_answer _ _

/-- The arrival of bytes is a run of `RxByte` (R233). -/
theorem runsTo_of_arrive {bs : List Byte} {s t : State} (h : s.arrive bs = .next t) : s.RunsTo t := by
  obtain ⟨k, u, _, hrun, _, rfl⟩ := deliver_delivers h
  refine ⟨_, u, ?_, hrun, rfl⟩
  rw [List.all_map]
  exact List.all_eq_true.mpr fun _ _ => rfl

/-- ABORT is `TxAccept` (R224). -/
theorem runsTo_abort {s t : State} (h : execAbort s = .next t) : s.RunsTo t :=
  runsTo_of_whenEnabled (e := .txAccept) rfl (fun hp => by
    rw [runEvent_of_decode (i := .verdictAbort)
      (by simp [decode, decodeTxAccept, State.controlPoint, hp.1, hp.2.1, hp.2.2])]
    exact whenEnabled_of hp _ _) h

/-- PROCEED is `TxAccept` (R223). -/
theorem runsTo_proceed {s t : State} (h : execProceed s = .next t) : s.RunsTo t :=
  runsTo_of_whenEnabled (e := .txAccept) rfl (fun hp => by
    rw [runEvent_of_decode (i := .verdictProceed)
      (by simp [decode, decodeTxAccept, State.controlPoint, hp.1, hp.2.1, hp.2.2])]
    exact whenEnabled_of hp _ _) h

/-- WS is `RxByte`. -/
theorem runsTo_ws {b : Byte} {s t : State} (h : execWs b s = .next t) : s.RunsTo t := by
  unfold execWs at h
  split at h
  · exact runsTo_of_arrive h
  · cases h; exact runsTo_answer _ _

/-- The CTRL format is `HostWrite` of register 12 (R184). -/
theorem runsTo_ctrl {v : Word} {s t : State} (h : execCtrl v s = .next t) : s.RunsTo t := by
  refine runsTo_of_label (e := .hostXn (hostWord true 12 v)) rfl ?_
  rw [runEvent_of_decode (i := decodeCtrl v) (by simp [decode, decodeHost, decodeWrite]), ← h]
  unfold decodeCtrl execCtrl State.commandCtrl
  split
  · rfl
  · split <;> rfl

/-- What the model's own forms name, when a step runs it, is a run of step labels. -/
theorem runsTo_of_op {row : BitVec 8} {d : Block} {i : Instr} {s t : State} (hrow : subOperation row = false)
    (hd : decodeOp row d = .instr i) (h : exec i s = .next t) : s.RunsTo t := by
  have plain : ∀ {j : Instr}, decodePlain j d = .instr i → i = j := fun {j} hj => by
    unfold decodePlain at hj; split at hj <;> cases hj; rfl
  unfold decodeOp at hd
  split at hd
  case h_23 => cases hd; cases h; exact runsTo_answer _ _
  case h_24 => cases plain hd; exact runsTo_abort h
  case h_25 => cases plain hd; exact runsTo_proceed h
  case h_26 => cases plain hd; exact runsTo_of_arrive h
  case h_27 => cases plain hd; exact runsTo_of_arrive h
  case h_28 => cases plain hd; exact runsTo_of_arrive h
  case h_29 => unfold decodeByteOperand at hd; split at hd <;> cases hd; exact runsTo_ws h
  case h_30 hr => rw [BitVec.eq_of_toNat_eq (y := 95#8) hr] at hrow; cases hrow
  case h_31 hr => rw [BitVec.eq_of_toNat_eq (y := 96#8) hr] at hrow; cases hrow
  case h_32 hr => rw [BitVec.eq_of_toNat_eq (y := 97#8) hr] at hrow; cases hrow
  case h_33 => split at hd <;> cases hd; exact runsTo_ctrl h
  case h_35 => cases hd
  all_goals cases plain hd; cases h; exact runsTo_answer _ _

/-- What a bare word names is a run of step labels. -/
theorem runsTo_of_word {n w : Nat} {i : Instr} {s t : State} (hd : decodeTableWord n w = some i)
    (h : exec i s = .next t) : s.RunsTo t := by
  unfold decodeTableWord at hd
  split at hd
  · cases hd
  split at hd
  · cases hd
    unfold tableByteWord at h
    split at h
    · exact runsTo_abort h
    split at h
    · exact runsTo_proceed h
    split at h
    · exact runsTo_of_arrive h
    split at h <;> cases h <;> exact runsTo_answer _ _
  split at hd
  · split at hd <;> cases hd
    exact runsTo_of_label (e := .hostXn (BitVec.ofNat 70 w)) rfl h
  split at hd
  · cases hd; split at h <;> cases h <;> exact runsTo_answer _ _
  split at hd
  · cases hd; exact runsTo_ctrl h
  split at hd
  · split at hd <;> cases hd; exact runsTo_of_arrive h
  split at hd
  · split at hd <;> cases hd; exact runsTo_of_arrive h
  · cases hd

/-- THE STEP LABELS ARE EXACTLY THE SIX OF R8: whatever input a step takes, the model's own included, what it does to the
device and to the transmit stream is what a run of HostWrite, HostRead, RxByte, RxEnd, TxAccept and Reset does from
the state with the input taken; an input that is no event is the empty run. -/
theorem step_runsTo {s t : State} (h : step s = .next t) : ∃ s', s.FetchedFrom s' ∧ s'.RunsTo t := by
  rcases step_next_cases h with hf | ⟨e, s', i, hf, hd, hx⟩
  · exact ⟨t, (fetch_fetchedFrom s).1 t hf, runsTo_answer t.out t⟩
  · refine ⟨s', (fetch_fetchedFrom s).2 e s' hf, ?_⟩
    cases e with
    | word n w =>
      change (match decodeTableWord n w with
        | some i => Decoded.instr i
        | none => .rejected .noSuchWord) = .instr i at hd
      split at hd <;> cases hd
      next hw => exact runsTo_of_word hw hx
    | op row d =>
      refine runsTo_of_op ?_ hd hx
      unfold fetch at hf
      split at hf
      case h_5 => split at hf <;> cases hf
      case h_6 => split at hf <;> cases hf
      case h_7 => split at hf <;> cases hf
      case h_10 =>
        split at hf
        · cases hf
        · next hrow => cases hf; exact Bool.eq_false_iff.mpr hrow
      all_goals cases hf
    | hostXn _ => exact runsTo_of_label rfl ((runEvent_of_decode hd).trans hx)
    | rxByte _ => exact runsTo_of_label rfl ((runEvent_of_decode hd).trans hx)
    | rxEnd => exact runsTo_of_label rfl ((runEvent_of_decode hd).trans hx)
    | txAccept => exact runsTo_of_label rfl ((runEvent_of_decode hd).trans hx)
    | reset => exact runsTo_of_label rfl ((runEvent_of_decode hd).trans hx)

end Sys2Proof.Machine
end

