-- ==== Sys2Proof/Tests/Slice0.lean ====
section
/-! SUPPORT. The tests: what well-formedness refuses, every operation decoded from a word written out from the spec's
encodings, the vectors of 95_test_vectors.md one step at a time, and, for every statement with hypotheses, a state and
operands that meet them. Expected results are those of 95_test_vectors.md, by the vector's name, or of the rule named. -/

namespace Sys2Proof.Tests

open Sys2Proof Sys2Proof.Machine

/-! ### Well-formedness: one ill-formed term per check -/

/-- START needs bit 0 of the value (R184). -/
theorem test_ill_formed_start : (Instr.start 2).wellFormed = false := by decide
/-- CLEAR needs bits 1:0 = 10b (R184). -/
theorem test_ill_formed_clear : (Instr.clear 3).wellFormed = false ∧ (Instr.clear 0).wellFormed = false := by decide
/-- The commandless write needs bits 1:0 = 00b (R184). -/
theorem test_ill_formed_no_command :
    (Instr.wrCtrlNoCommand 1).wellFormed = false ∧ (Instr.wrCtrlNoCommand 2).wellFormed = false := by decide
/-- AR_BYTE takes no NL (R214). -/
theorem test_ill_formed_ar_byte : (Instr.arByte 0x0A).wellFormed = false := by decide
/-- AD_BYTE takes no NL (R225). -/
theorem test_ill_formed_ad_byte : (Instr.adByte 0x0A).wellFormed = false := by decide
/-- LINEBYTE takes no NL (R210). -/
theorem test_ill_formed_line_byte : (Instr.lineByte 0x0A).wellFormed = false := by decide
/-- FAIL takes a failure reason (R256). -/
theorem test_ill_formed_fail : (Instr.fail .none).wellFormed = false := by decide

/-! ### Decoding: every operation from a word written out -/

/-- Host transactions `h_write ‖ h_addr ‖ h_wdata` (R112) with the operations of R171 and R62. -/
def hostWordsA : List (HostXn × Instr) :=
  [(0x200000000000000010, .wrFBlockId 0x10), (0x000000000000000000, .rdFBlockId),
   (0x210000000000000011, .wrFAsdoEnabled 0x11), (0x010000000000000000, .rdFAsdoEnabled),
   (0x220000000000000012, .wrFApproachDirection 0x12), (0x020000000000000000, .rdFApproachDirection),
   (0x230000000000000013, .wrFVersion 0x13), (0x030000000000000000, .rdFVersion),
   (0x240000000000000014, .wrFApplicationCode 0x14), (0x040000000000000000, .rdFApplicationCode),
   (0x250000000000000015, .wrFDoorEnable 0x15), (0x050000000000000000, .rdFDoorEnable),
   (0x260000000000000016, .wrFStopZoneLength 0x16), (0x060000000000000000, .rdFStopZoneLength),
   (0x270000000000000017, .wrFStationId 0x17), (0x070000000000000000, .rdFStationId),
   (0x280000000000000018, .wrFPlatformId 0x18), (0x080000000000000000, .rdFPlatformId),
   (0x0A0000000000000000, .rdEncHi), (0x2A0000000000000001, .wrEncHi 1),
   (0x0B0000000000000000, .rdEncLo), (0x2B0000000000000001, .wrEncLo 1),
   (0x0D0000000000000000, .rdStatus), (0x2D0000000000000001, .wrStatus 1),
   (0x0E0000000000000000, .rdSentHi), (0x2E0000000000000001, .wrSentHi 1),
   (0x0F0000000000000000, .rdSentLo)]

/-- The same for the remaining registers, the commands (R184, R193) and the unmapped numbers (R190). -/
def hostWordsB : List (HostXn × Instr) :=
  [(0x2F0000000000000001, .wrSentLo 1), (0x100000000000000000, .rdDetail0),
   (0x300000000000000001, .wrDetail0 1), (0x110000000000000000, .rdDetail1),
   (0x310000000000000001, .wrDetail1 1), (0x120000000000000000, .rdDetail2),
   (0x320000000000000001, .wrDetail2 1), (0x130000000000000000, .rdDetail3),
   (0x330000000000000001, .wrDetail3 1), (0x140000000000000000, .rdDetail4),
   (0x340000000000000001, .wrDetail4 1), (0x150000000000000000, .rdDetail5),
   (0x350000000000000001, .wrDetail5 1), (0x160000000000000000, .rdDetail6),
   (0x360000000000000001, .wrDetail6 1), (0x170000000000000000, .rdDetail7),
   (0x370000000000000001, .wrDetail7 1), (0x0C0000000000000000, .rdCtrl),
   (0x2C0000000000000001, .start 1), (0x2CFFFFFFFFFFFFFFFF, .start 0xFFFFFFFFFFFFFFFF),
   (0x2C0000000000000002, .clear 2), (0x2C0000000000000000, .wrCtrlNoCommand 0),
   (0x2C0000000000000004, .wrCtrlNoCommand 4), (0x090000000000000000, .unmapped9 false 0),
   (0x290000000000000005, .unmapped9 true 5), (0x180000000000000000, .unmapped24to31 false 0 0),
   (0x1F0000000000000000, .unmapped24to31 false 7 0), (0x3F0000000000000005, .unmapped24to31 true 7 5)]

theorem test_decode_host_words_a : ∀ p ∈ hostWordsA, decodeHost p.1 = p.2 := by decide
theorem test_decode_host_words_b : ∀ p ∈ hostWordsB, decodeHost p.1 = p.2 := by decide

/-- Operations by their row of spec/opcode_table.json (log entry 8). -/
def rowWords : List (BitVec 8 × Block × Instr) :=
  [(1, 0, .encode), (2, 0, .byte0), (3, 0, .byte1), (4, 0, .byte2),
   (5, 0, .byte3), (6, 0, .byte4), (7, 0, .byte5), (8, 0, .byte6to15),
   (9, 0, .p1), (10, 0, .p2), (11, 0, .p3), (12, 0, .p4),
   (13, 0, .p5), (14, 0, .p6), (15, 0, .p7), (16, 0, .p8),
   (17, 0, .p9), (18, 0, .p10), (19, 0, .p11), (20, 0, .p12),
   (21, 0, .p13), (22, 0, .oorFlags), (24, 0, .abort), (25, 0, .proceed),
   (26, 0, .litReady), (27, 0, .litDone), (28, 0, .nl), (96, 0, .lineReset),
   (100, 0, .status), (23, 0x0A010000000000000000000000000000, .decode 0x0A010000000000000000000000000000), (29, 0x20, .ws 0x20), (95, 0x57, .lineByte 0x57),
   (97, 1, .fail .writerNotDetected), (97, 2, .fail .echoMismatch), (97, 3, .fail .writeFailed), (99, 3, .ctrl 3)]

theorem test_decode_rows : ∀ p ∈ rowWords, decodeOp p.1 p.2.1 = .instr p.2.2 := by decide

/-- The transition table of R234, one entry for every row of it. -/
def transitionWords : List (ControlPoint × Event × Instr) :=
  [(⟨.awaitingReady, 0, false, false, false⟩, .rxByte 0x57, .arByte 0x57),
   (⟨.awaitingReady, 0, false, false, true⟩, .rxByte 0x0A, .arNlMatch),
   (⟨.awaitingReady, 0, false, false, false⟩, .rxByte 0x0A, .arNlOther),
   (⟨.awaitingReady, 0, false, false, true⟩, .rxEnd, .arEnd),
   (⟨.sending, 14, false, false, false⟩, .txAccept, .sendByte),
   (⟨.sending, 15, false, false, false⟩, .txAccept, .sendLast),
   (⟨.verifyingEcho, 14, false, false, false⟩, .rxByte 0x0A, .echoByte 0x0A),
   (⟨.verifyingEcho, 15, false, true, false⟩, .rxByte 0x00, .echoLast 0x00),
   (⟨.verifyingEcho, 5, false, false, false⟩, .rxEnd, .echoEnd),
   (⟨.verifyingEcho, 16, true, false, false⟩, .txAccept, .verdictProceed),
   (⟨.verifyingEcho, 16, true, true, false⟩, .txAccept, .verdictAbort),
   (⟨.awaitingDone, 16, false, false, false⟩, .rxByte 0x57, .adByte 0x57),
   (⟨.awaitingDone, 16, false, false, true⟩, .rxByte 0x0A, .adNlMatch),
   (⟨.awaitingDone, 16, false, false, false⟩, .rxByte 0x0A, .adNlOther),
   (⟨.awaitingDone, 16, false, false, false⟩, .rxEnd, .adEnd),
   (⟨.idle, 0, false, false, false⟩, .reset, .reset)]

theorem test_decode_transitions : ∀ p ∈ transitionWords, decode p.1 p.2.1 = .instr p.2.2 := by decide

/-- Where R234 has a dash nothing is decoded. -/
theorem test_decode_dashes :
    decode ⟨.idle, 0, false, false, false⟩ (.rxByte 0x57) = .rejected .noTransition ∧
    decode ⟨.sending, 0, false, false, false⟩ .rxEnd = .rejected .noTransition ∧
    decode ⟨.verifyingEcho, 0, false, false, false⟩ .txAccept = .rejected .noTransition ∧
    decode ⟨.verifyingEcho, 16, true, false, false⟩ (.rxByte 0) = .rejected .noTransition ∧
    decode ⟨.success, 16, false, false, true⟩ .rxEnd = .rejected .noTransition := by decide

/-- Bare words of the table: the block of S1, the same with a reserved byte set (K5), a CTRL value, the wire bytes of
R100, R101, R104, and the literals, first byte lowest. -/
theorem test_decode_bare_words :
    decodeTableWord 128 0x0A010000000000000000000000000000 = some .encode ∧
    decodeTableWord 128 0x0A010000000000000000000000000001 = some (.decode 0x0A010000000000000000000000000001) ∧
    decodeTableWord 64 2 = some (.ctrl 2) ∧
    decodeTableWord 8 0x00 = some .abort ∧ decodeTableWord 8 0x40 = some .proceed ∧ decodeTableWord 8 0x0A = some .nl ∧
    decodeTableWord 96 0x594441455220524554495257 = some .litReady ∧
    decodeTableWord 80 0x454E4F44204554495257 = some .litDone ∧
    decodeTableWord 72 0x2C0000000000000001 = some (.start 1) := by decide

/-! ### States for the tests -/

/-- The state a result leads to. -/
def after : Result → Option State
  | .next s => some s
  | .fault _ | .refused _ => none

/-- What a result answers. -/
def answer (r : Result) : Option Output := (after r).map State.out

/-- STATUS of the state a result leads to. -/
def status (r : Result) : Option Word := (after r).map State.statusWord

/-- The field registers of E57. -/
def recE57 : Fields := ⟨0, 1, 2, 2, 0x2A, 3, 300, 12345, 7⟩

/-- The field registers of S1. -/
def recS1 : Fields := ⟨0, 1, 1, 0, 1, 0, 0, 0, 0⟩

/-- The reset state with E57 in the field registers. -/
def stE57 : State := { State.reset with F := recE57 }

/-- The same under the other reading of `SID_LO_SHIFT`. -/
def stE57alt : State := { stE57 with cfg := { sidShift := .four, ws := Config.device.ws } }

/-- The line reader after the bytes of a line. -/
def lrOf (line : List Byte) : LineReader := line.foldl (fun l b => l.lineByte Config.device.ws b) LineReader.reset

/-- A session with the record of S1, its block latched and the given line read. -/
def session (h : HsState) (line : List Byte) : State :=
  { State.reset with F := recS1, hsState := h, blk := [(0, 0x0A), (1, 0x01)], lr := lrOf line }

/-- AwaitingReady after `line`. -/
def stReady (line : List Byte) : State := session .awaitingReady line

/-- Sending at byte `i` (T4, T5). -/
def stSend (i : BitVec 5) : State := { session .sending Config.litReady with idx := i }

/-- VerifyingEcho before echo byte `i` (T6 to T11). -/
def stEcho (i : BitVec 5) : State := { session .verifyingEcho Config.litReady with idx := i }

/-- VerifyingEcho with the verdict byte waiting (T12, T13). -/
def stVerdict (m : Bool) : State := { session .verifyingEcho Config.litReady with idx := 16, txp := true, mism := m }

/-- AwaitingDone after `line` (T14 to T17). -/
def stDone (line : List Byte) : State := { session .awaitingDone line with idx := 16 }

/-- Success, as PG1 ends. -/
def stSuccess : State := { session .success Config.litDone with idx := 16 }

/-- `NOT READY` (S6). -/
def notReady : List Byte := [0x4E, 0x4F, 0x54, 0x20, 0x52, 0x45, 0x41, 0x44, 0x59]

/-- Failed, as S6 ends. -/
def stFailed : State := { session .failed notReady with reason := .writerNotDetected }

/-! ### The encoder -/

/-- E57, byte by byte as 95_test_vectors.md derives it; byte 5 also under the other reading. -/
theorem test_encode_E57 :
    answer (exec .encode stE57) = some (.block 0x0D2AD2C6072700000000000000000000) ∧
    answer (exec .encode stE57alt) = some (.block 0x0D2AD2C6071700000000000000000000) := by decide
theorem test_block_bytes_E57 :
    answer (exec .byte0 stE57) = some (.byte 0x0D) ∧ answer (exec .byte1 stE57) = some (.byte 0x2A) ∧
    answer (exec .byte2 stE57) = some (.byte 0xD2) ∧ answer (exec .byte3 stE57) = some (.byte 0xC6) ∧
    answer (exec .byte4 stE57) = some (.byte 0x07) ∧ answer (exec .byte5 stE57) = some (.byte 0x27) ∧
    answer (exec .byte5 stE57alt) = some (.byte 0x17) ∧
    answer (exec .byte6to15 stE57) = some (.bytes (List.replicate 10 0)) := by decide
/-- E3: nothing above a field's width reaches the block (R151). -/
theorem test_encode_E3 :
    answer (exec .encode { State.reset with F := ⟨0xFFFFFFFFFFFFFFFF, 0xFFFFFFFFFFFFFFFF, 0xFFFFFFFFFFFFFFFF,
      0xFFFFFFFFFFFFFFFF, 0xFFFFFFFFFFFFFFFF, 0xFFFFFFFFFFFFFFFF, 0xFFFFFFFFFFFFFFFF, 0xFFFFFFFFFFFFFFFF,
      0xFFFFFFFFFFFFFFFF⟩ }) = some (.block 0xFFFFFFFFFFEF00000000000000000000) := by decide
/-- The pieces of E57, by the packing table (R92). -/
theorem test_pieces_E57 :
    answer (exec .p1 stE57) = some (.byte 0x00) ∧ answer (exec .p2 stE57) = some (.byte 0x08) ∧
    answer (exec .p3 stE57) = some (.byte 0x04) ∧ answer (exec .p4 stE57) = some (.byte 0x01) ∧
    answer (exec .p5 stE57) = some (.byte 0x00) ∧ answer (exec .p6 stE57) = some (.byte 0x2A) ∧
    answer (exec .p7 stE57) = some (.byte 0xC0) ∧ answer (exec .p8 stE57) = some (.byte 0x12) ∧
    answer (exec .p9 stE57) = some (.byte 0xC0) ∧ answer (exec .p10 stE57) = some (.byte 0x06) ∧
    answer (exec .p11 stE57) = some (.byte 0x07) ∧ answer (exec .p12 stE57) = some (.byte 0x20) ∧
    answer (exec .p12 stE57alt) = some (.byte 0x10) ∧ answer (exec .p13 stE57) = some (.byte 0x07) := by decide
/-- E16 and E14: `oor` and `dir_rsv` (R159). -/
theorem test_oor_flags :
    answer (exec .oorFlags { State.reset with F := { Fields.zero with approachDirection := 5 } }) =
      some (.flags true false) ∧
    answer (exec .oorFlags { State.reset with F := { Fields.zero with approachDirection := 3 } }) =
      some (.flags false true) := by decide
/-- K2 and K4 (R160). -/
theorem test_decode_K2_K4 :
    answer (exec (.decode 0x0D2AD2C6072700000000000000000000) State.reset) =
      some (.record ⟨0, 1, 2, 2, 42, 3, 300, 12345, 7⟩ true) ∧
    answer (exec (.decode 0xFFFFFFFFFFFF00000000000000000000) State.reset) =
      some (.record ⟨15, 1, 3, 3, 127, 3, 1023, 32767, 15⟩ false) := by decide

/-! ### The host port -/

/-- H8: all 64 bits are stored, the encoder sees four of them, `oor` rises. -/
theorem test_host_H8 :
    (after (exec (.wrFBlockId 0xFFFFFFFFFFFFFFFF) State.reset)).map (fun t =>
      (answer (exec .rdFBlockId t), answer (exec .rdEncHi t), answer (exec .rdStatus t))) =
    some (some (.host 0xFFFFFFFFFFFFFFFF false), some (.host 0xF000000000000000 false), some (.host 0x180 false)) := by
  decide
/-- H2, H3, H4: reads of the reset state. -/
theorem test_host_reads_after_reset :
    answer (exec .rdEncLo State.reset) = some (.host 0 false) ∧
    answer (exec .rdSentHi State.reset) = some (.host 0 false) ∧
    answer (exec .rdDetail7 State.reset) = some (.host 0 false) ∧
    answer (exec .rdStatus State.reset) = some (.host 0x100 false) ∧
    answer (exec .rdCtrl State.reset) = some (.host 0 false) := by decide
/-- H5, H6, H7: BusError. -/
theorem test_bus_errors :
    exec (.unmapped9 false 0) stE57 = .next { stE57 with out := .host 0 true } ∧
    exec (.unmapped24to31 true 7 5) stE57 = .next { stE57 with out := .host 0 true } ∧
    exec (.wrEncHi 1) stE57 = .next { stE57 with out := .host 0 true } ∧
    exec (.wrDetail3 1) stE57 = .next { stE57 with out := .host 0 true } := ⟨rfl, rfl, rfl, rfl⟩
/-- S6: the detail of a failed session; PG1 line 27: that of a successful one. -/
theorem test_detail_registers :
    answer (exec .rdDetail0 stFailed) = some (.host 0x4E4F542052454144 false) ∧
    answer (exec .rdDetail1 stFailed) = some (.host 0x5900000000000000 false) ∧
    answer (exec .rdDetail0 stSuccess) = some (.host 0x575249544520444F false) ∧
    answer (exec .rdSentHi stSuccess) = some (.host 0x0A01000000000000 false) := by decide
/-- H13, H14: START from Idle. -/
theorem test_start_H13_H14 :
    status (exec (.start 1) State.reset) = some 0x109 ∧
    status (exec (.ctrl 0xFFFFFFFFFFFFFFFF) State.reset) = some 0x109 := by decide
/-- H15: commands while busy are ignored; H17: START from Success. -/
theorem test_start_H15_H17 :
    status (exec (.start 1) (stSend 3)) = status (.next (stSend 3)) ∧
    status (exec (.clear 2) (stSend 3)) = status (.next (stSend 3)) ∧
    status (exec (.start 1) stSuccess) = some 0x9 := by decide
/-- H18: CLEAR from Failed; H12: CLEAR in Idle; H11: no command. -/
theorem test_clear_H18_H12_H11 :
    status (exec (.clear 2) stFailed) = some 0 ∧ status (exec (.clear 2) State.reset) = some 0x100 ∧
    status (exec (.wrCtrlNoCommand 4) State.reset) = some 0x100 := by decide
/-- The STATUS format has the value that the host reads (PG1 line 26). -/
theorem test_status_format : answer (exec .status stSuccess) = some (.word 0x100A0015) := by decide

/-! ### The controller -/

/-- T2, and the whitespace that R210 skips. -/
theorem test_T2_ar_byte :
    status (exec (.arByte 0x57) (stReady [])) = some 0x00010009 ∧
    (after (exec (.arByte 0x20) (stReady []))).map State.lr = some LineReader.reset := by decide
/-- T3 and S6. -/
theorem test_T3_ar_nl :
    status (exec .arNlMatch (stReady Config.litReady)) = some 0x000C000A ∧
    status (exec .arNlOther (stReady notReady)) = some 0x00090036 := by decide
/-- LR15 and LR17. -/
theorem test_LR15_LR17_ar_end :
    status (exec .arEnd (stReady Config.litReady)) = some 0x000C040A ∧
    status (exec .arEnd (stReady [])) = some 0x00000436 := by decide
/-- T4. -/
theorem test_T4_send_byte :
    status (exec .sendByte (stSend 0)) = some 0x010C000A ∧
    (after (exec .sendByte (stSend 0))).map State.txStream = some [0x0A] ∧
    (after (exec .sendByte (stSend 0))).map State.txData = some 0x01 := by decide
/-- T5. -/
theorem test_T5_send_last :
    status (exec .sendLast (stSend 15)) = some 0x000C000B ∧
    (after (exec .sendLast (stSend 15))).map State.txStream = some [0x00] := by decide
/-- T6, T7, T10. -/
theorem test_T6_T7_T10_echo_byte :
    status (exec (.echoByte 0x0A) (stEcho 0)) = some 0x010C000B ∧
    status (exec (.echoByte 0x0B) (stEcho 0)) = some 0x010C080B ∧
    (after (exec (.echoByte 0x0A) (stEcho 2))).map State.mism = some true := by decide
/-- T8, T9. -/
theorem test_T8_T9_echo_last :
    status (exec (.echoLast 0x00) (stEcho 15)) = some 0x100C000B ∧
    (after (exec (.echoLast 0x00) (stEcho 15))).map State.txData = some 0x40 ∧
    status (exec (.echoLast 0x01) (stEcho 15)) = some 0x100C080B := by decide
/-- T11. -/
theorem test_T11_echo_end : status (exec .echoEnd (stEcho 5)) = some 0x050C0C0B := by decide
/-- T12, and the signal PROCEED. -/
theorem test_T12_verdict_proceed :
    status (exec .verdictProceed (stVerdict false)) = some 0x1000000C ∧
    (after (exec .proceed (stVerdict false))).map State.txStream = some [0x40] := by decide
/-- T13, and the signal ABORT. -/
theorem test_T13_verdict_abort :
    status (exec .verdictAbort (stVerdict true)) = some 0x100C0856 ∧
    (after (exec .abort (stVerdict true))).map State.txStream = some [0x00] := by decide
/-- T14, T15 (`WRITE DONE.`). -/
theorem test_T14_T15_ad_nl :
    status (exec .adNlMatch (stDone Config.litDone)) = some 0x100A0015 ∧
    status (exec .adNlOther (stDone (Config.litDone ++ [0x2E]))) = some 0x100B0076 := by decide
/-- T16, T17. -/
theorem test_T16_T17_ad_end :
    status (exec .adEnd (stDone [])) = some 0x10000476 ∧
    status (exec .adEnd (stDone Config.litDone)) = some 0x100A0415 := by decide
/-- R225: the first byte of `WRITE DONE`. -/
theorem test_ad_byte : status (exec (.adByte 0x57) (stDone [])) = some 0x1001000C := by decide
/-- R210's example: `20 57 52 20 0D` gives count 4 and end 2. -/
theorem test_line_byte_example :
    (after (exec (.lineByte 0x0D) (stReady [0x20, 0x57, 0x52, 0x20]))).map (fun t => (t.lr.lrCnt, t.lr.lrEnd)) =
      some (4, 2) := by decide
/-- LR20 and LR21, the last step: a 65th byte overflows, dropped whitespace sets nothing (R210). -/
theorem test_line_overflow :
    (LineReader.lineByte Config.device.ws 0x78 ⟨[], 64, 64, false, false⟩).lrOvf = true ∧
    (LineReader.lineByte Config.device.ws 0x20 ⟨[], 64, 64, false, false⟩).lrOvf = false ∧
    (LineReader.lineByte Config.device.ws 0x78 ⟨[], 63, 62, false, false⟩).lrEnd = 64 := by decide
/-- R209. -/
theorem test_line_reset : (after (exec .lineReset (stReady notReady))).map State.lr = some LineReader.reset := by decide
/-- R256: the state and the reason, nothing else. -/
theorem test_fail :
    exec (.fail .echoMismatch) (stSend 3) =
      .next { stSend 3 with hsState := .failed, reason := .echoMismatch } := rfl
/-- T19, PG6: reset in Sending; the transmit stream stays. -/
theorem test_T19_reset :
    status (exec .reset { stSend 7 with txStream := [1, 2, 3, 4, 5, 6, 7] }) = some 0x100 ∧
    (after (exec .reset { stSend 7 with txStream := [1, 2, 3, 4, 5, 6, 7] })).map State.txStream =
      some [1, 2, 3, 4, 5, 6, 7] := by decide
/-- R215, R226 at the level of messages (R233). -/
theorem test_literals_arrive :
    status (exec .litReady (stReady [])) = some 0x000C000A ∧
    status (exec .litDone (stDone [])) = some 0x100A0015 := by decide
/-- T1 and T18: bytes that nothing reads wait in the channel; LR7: a bare terminator. -/
theorem test_nl_and_ws_arrive :
    (after (exec .nl State.reset)).map State.rxStream = some [0x0A] ∧
    status (exec .nl (stReady [])) = some 0x00000036 ∧
    (after (exec (.ws 0x20) stSuccess)).map State.rxStream = some [0x20] := by decide

/-! ### The step -/

/-- A bare word runs as the next step (log entry 4): START of H13. -/
theorem test_step_runs_fetch_word :
    status (step (State.reset.withFetchWord 72 0x2C0000000000000001)) = some 0x109 := by decide
/-- One step per event: the receive byte is taken from the stream (T2), T1: not while `rx_ready` is 0. -/
theorem test_step_rx_byte :
    (after (step { stReady [] with rxStream := [0x57, 0x52], pending := [.rxByte] })).map
      (fun t => (t.rxStream, t.lr.lrEnd, t.pending)) = some ([0x52], 1, []) ∧
    (after (step { State.reset with rxStream := [0x57], pending := [.rxByte] })).map State.rxStream = some [0x57] := by
  decide
/-- A state that no device input reaches faults, and a row number that names nothing is refused (log entry 5). -/
theorem test_step_stops :
    step { stSend 16 with pending := [.txAccept] } = .fault .noTransition ∧
    step { State.reset with pending := [.op 0 0] } = .refused .noSuchOperation := ⟨rfl, rfl⟩
/-- A sub-operation by itself is no step label of R8: the input is gone and nothing else happens (log entry 16). -/
theorem test_step_sub_operation :
    step { stReady notReady with pending := [.op 96 0] } = .next { stReady notReady with out := .noStep } ∧
    step { stSend 3 with pending := [.op 97 2] } = .next { stSend 3 with out := .noStep } := ⟨rfl, rfl⟩

/-! ### Witnesses: for every statement with hypotheses, a state and operands that meet them -/

/-- The line reader of a line read from its reset is well-formed. -/
theorem lrOf_wf (line : List Byte) : (lrOf line).Wf Config.device.ws := by
  have h : ∀ l : LineReader, l.Wf Config.device.ws →
      (line.foldl (fun l b => l.lineByte Config.device.ws b) l).Wf Config.device.ws := by
    induction line with
    | nil => exact fun _ h => h
    | cons b bs ih => exact fun l h => ih _ (LineReader.lineByte_wf h b)
  exact h _ (LineReader.reset_wf _)

/-- Bytes 6 to 15 of the block of S1 are zero. -/
theorem blkS1_reserved (k : Nat) (h : 6 ≤ k) : Memory.read [(0, 0x0A), (1, 0x01)] k = 0 := by
  refine Memory.read_eq_zero fun c hc => ?_
  simp only [List.mem_cons, List.not_mem_nil, or_false] at hc
  rcases hc with rfl | rfl <;> simp only <;> omega

/-- Sending at byte 15, the boundary, meets both invariants. -/
theorem stSend_inv : (stSend 15).Inv ∧ (stSend 15).OutcomeInv :=
  ⟨⟨by decide, blkS1_reserved, lrOf_wf _, by decide, by decide, by decide, by decide, by decide, by decide, by decide,
    by decide, by decide, by decide⟩, ⟨by decide, by decide, by decide, by decide, by decide⟩⟩

/-- VerifyingEcho before byte 15 meets both invariants. -/
theorem stEcho_inv : (stEcho 15).Inv ∧ (stEcho 15).OutcomeInv :=
  ⟨⟨by decide, blkS1_reserved, lrOf_wf _, by decide, by decide, by decide, by decide, by decide, by decide, by decide,
    by decide, by decide, by decide⟩, ⟨by decide, by decide, by decide, by decide, by decide⟩⟩

/-- VerifyingEcho with PROCEED waiting meets both invariants. -/
theorem stVerdict_inv : (stVerdict false).Inv ∧ (stVerdict false).OutcomeInv :=
  ⟨⟨by decide, blkS1_reserved, lrOf_wf _, by decide, by decide, by decide, by decide, by decide, by decide, by decide,
    by decide, by decide, by decide⟩, ⟨by decide, by decide, by decide, by decide, by decide⟩⟩

/-- AwaitingDone with the line held meets both invariants. -/
theorem stDone_inv : (stDone Config.litDone).Inv ∧ (stDone Config.litDone).OutcomeInv :=
  ⟨⟨by decide, blkS1_reserved, lrOf_wf _, by decide, by decide, by decide, by decide, by decide, by decide, by decide,
    by decide, by decide, by decide⟩, ⟨by decide, by decide, by decide, by decide, by decide⟩⟩

/-- Failed as S6 ends meets both invariants. -/
theorem stFailed_inv : stFailed.Inv ∧ stFailed.OutcomeInv :=
  ⟨⟨by decide, blkS1_reserved, lrOf_wf _, by decide, by decide, by decide, by decide, by decide, by decide, by decide,
    by decide, by decide, by decide⟩, ⟨by decide, by decide, by decide, by decide, by decide⟩⟩

theorem witness_BytesAreOrOfPieces : 0 < 16 ∧ 15 < 16 := by decide

/-- Byte 0 bit 3 and, at the other end, byte 5 bit 7 do change (E9, E41). -/
theorem witness_FieldChangeIsIsolated :
    (encodeByte .five (Fields.zero.set .asdoEnabled 1) 0).getLsbD 3 ≠ (encodeByte .five Fields.zero 0).getLsbD 3 ∧
    (encodeByte .five (Fields.zero.set .stationId 7) 5).getLsbD 7 ≠ (encodeByte .five Fields.zero 5).getLsbD 7 := by
  decide

/-- K2 is canonical, and under both readings the zero block is. -/
theorem witness_BlockRoundTrip :
    canonical .five 0x0D2AD2C6072700000000000000000000 = true ∧ canonical .four 0 = true := by decide

/-- Field registers 0 and 8, the same number and two different ones. -/
theorem witness_FieldWriteIsSeenByLaterReads : (0 < 9 ∧ 8 < 9) ∧ (8 < 9 ∧ 8 < 9) := by decide

/-- Bytes 0 and 7 of a register, and a latched block with zero bytes from 6 on. -/
theorem witness_BlockRegistersShowBytesInOrder :
    0 < 8 ∧ 7 < 8 ∧ ∀ k, 6 ≤ k → stSuccess.blk.read k = 0 := ⟨by decide, by decide, blkS1_reserved⟩

/-- A byte below `lr_end` and the first one at it (S6). -/
theorem witness_DetailRegistersShowTrimmedLine :
    (1 < 8 ∧ 0 < 8 ∧ 8 * 1 + 0 < stFailed.lr.lrEnd.toNat) ∧ (1 < 8 ∧ 1 < 8 ∧ ¬8 * 1 + 1 < stFailed.lr.lrEnd.toNat) := by
  decide

/-- A read, a write, and BusError at each boundary of its ranges: registers 8, 9, 10, 11, 12, 13, 23, 24, 31. -/
theorem witness_HostTransactionsAlwaysComplete :
    (HostXn.write 0x080000000000000000 = false ∧ (HostXn.addr 0x080000000000000000).toNat = 8) ∧
    (HostXn.write 0x2C0000000000000001 = true ∧ (HostXn.addr 0x2C0000000000000001).toNat = 12) ∧
    (HostXn.addr 0x090000000000000000).toNat = 9 ∧ 24 ≤ (HostXn.addr 0x180000000000000000).toNat ∧
    24 ≤ (HostXn.addr 0x1F0000000000000000).toNat ∧
    (HostXn.write 0x2A0000000000000000 = true ∧ (HostXn.addr 0x2A0000000000000000).toNat = 10) ∧
    (HostXn.write 0x2B0000000000000000 = true ∧ (HostXn.addr 0x2B0000000000000000).toNat = 11) ∧
    (HostXn.write 0x2D0000000000000000 = true ∧ 13 ≤ (HostXn.addr 0x2D0000000000000000).toNat) ∧
    (HostXn.write 0x370000000000000000 = true ∧ (HostXn.addr 0x370000000000000000).toNat ≤ 23) := by decide

theorem witness_StartBeginsSession :
    State.reset.hsState = .idle ∧ stSuccess.hsState = .success ∧ stFailed.hsState = .failed := by decide

theorem witness_StartLatchesLiveBlock :
    stE57.hsState = .idle ∧ stSuccess.hsState = .success ∧ stFailed.hsState = .failed := by decide

theorem witness_ClearReturnsToIdle : stSuccess.hsState = .success ∧ stFailed.hsState = .failed := by decide

theorem witness_CommandsNotAcceptedChangeNothing :
    (stReady []).hsState = .awaitingReady ∧ (stSend 0).hsState = .sending ∧ (stEcho 0).hsState = .verifyingEcho ∧
    (stDone []).hsState = .awaitingDone ∧ State.reset.hsState = .idle := by decide

/-- START alone, both bits, CLEAR alone, neither; a terminal state for the last clause. -/
theorem witness_CtrlWriteSelectsCommand :
    (1 : Word).getLsbD 0 = true ∧ ((2 : Word).getLsbD 0 = false ∧ (2 : Word).getLsbD 1 = true) ∧
    ((4 : Word).getLsbD 0 = false ∧ (4 : Word).getLsbD 1 = false) ∧
    ((3 : Word).getLsbD 0 = true ∧ (3 : Word).getLsbD 1 = true ∧ stSuccess.hsState = .success) ∧
    stFailed.hsState = .failed := by decide

/-- A field write and reset do change the field registers. -/
theorem witness_FieldsChangeOnlyByFieldWriteOrReset :
    (∃ t, exec (.wrFBlockId 1) State.reset = .next t ∧ t.F ≠ State.reset.F) ∧
    (∃ t, exec .reset stE57 = .next t ∧ t.F ≠ stE57.F) := ⟨⟨_, rfl, by decide⟩, ⟨_, rfl, by decide⟩⟩

/-- START, CLEAR, a write of CTRL and reset do change the latched block. -/
theorem witness_LatchedBlockChangesOnlyByCommandOrReset :
    (∃ t, exec (.start 1) stE57 = .next t ∧ t.blk ≠ stE57.blk) ∧
    (∃ t, exec (.clear 2) stSuccess = .next t ∧ t.blk ≠ stSuccess.blk) ∧
    (∃ t, exec (.ctrl 3) stE57 = .next t ∧ t.blk ≠ stE57.blk) ∧
    (∃ t, exec .reset stSuccess = .next t ∧ t.blk ≠ stSuccess.blk) :=
  ⟨⟨_, rfl, by decide⟩, ⟨_, rfl, by decide⟩, ⟨_, rfl, by decide⟩, ⟨_, rfl, by decide⟩⟩

/-- In both terminal states a field write, which is none of the exceptions, answers a next state. -/
theorem witness_OutcomeIsStableUntilCommand :
    (stSuccess.hsState = .success ∧ ∃ t, exec (.wrFBlockId 1) stSuccess = .next t) ∧
    (stFailed.hsState = .failed ∧ ∃ t, exec .arEnd stFailed = .next t) ∧
    ∀ v : Word, Instr.arEnd ≠ .start v ∧ Instr.arEnd ≠ .clear v ∧ Instr.arEnd ≠ .ctrl v :=
  ⟨⟨rfl, _, rfl⟩, ⟨rfl, _, rfl⟩, fun _ => ⟨nofun, nofun, nofun⟩⟩

/-- Leading whitespace; a byte with room, at count 63; a byte without, at count 64; in both line states. -/
theorem witness_LineBytesUpdateTheLineReader :
    (0x20 : Byte) ≠ Config.nl ∧ (0x57 : Byte) ≠ Config.nl ∧ (stReady []).hsState = .awaitingReady ∧
    (stDone []).hsState = .awaitingDone ∧
    ((stReady []).lr.lrLead = true ∧ (0x20 : Byte) ∈ (stReady []).cfg.ws) ∧
    ((0x57 : Byte) ∉ (stReady []).cfg.ws ∧ (stReady []).lr.lrCnt.toNat < 64) ∧
    (let s : State := { stReady [] with lr := ⟨[], 63, 63, false, false⟩ }
     s.lr.lrLead = false ∧ s.lr.lrCnt.toNat < 64) ∧
    (let s : State := { stReady [] with lr := ⟨[], 64, 64, false, false⟩ }
     s.lr.lrLead = false ∧ 64 ≤ s.lr.lrCnt.toNat) := by decide

theorem holds_of_lineIs {l : LineReader} {lit : List Byte} (h : l.lineIs lit = true) : l.Holds lit := by
  simpa [LineReader.lineIs, LineReader.Holds, and_assoc] using h

theorem lineIs_of_holds {l : LineReader} {lit : List Byte} (h : l.Holds lit) : l.lineIs lit = true := by
  simpa [LineReader.lineIs, LineReader.Holds, and_assoc] using h

theorem not_holds_of_lineIs {l : LineReader} {lit : List Byte} (h : l.lineIs lit = false) : ¬l.Holds lit :=
  fun hl => by simp [lineIs_of_holds hl] at h

theorem witness_LiteralLinesAdvance :
    ((stReady Config.litReady).hsState = .awaitingReady ∧ (stReady Config.litReady).lr.Holds Config.litReady) ∧
    ((stDone Config.litDone).hsState = .awaitingDone ∧ (stDone Config.litDone).lr.Holds Config.litDone) :=
  ⟨⟨rfl, holds_of_lineIs (by decide)⟩, rfl, holds_of_lineIs (by decide)⟩

/-- A wrong text, and the empty line. -/
theorem witness_OtherLinesFail :
    ((stReady notReady).hsState = .awaitingReady ∧ ¬(stReady notReady).lr.Holds Config.litReady) ∧
    ((stDone []).hsState = .awaitingDone ∧ ¬(stDone []).lr.Holds Config.litDone) :=
  ⟨⟨rfl, not_holds_of_lineIs (by decide)⟩, rfl, not_holds_of_lineIs (by decide)⟩

theorem witness_EndedLinesAreJudged :
    ((stReady Config.litReady).hsState = .awaitingReady ∧ (stReady Config.litReady).lr.Holds Config.litReady) ∧
    ((stReady []).hsState = .awaitingReady ∧ ¬(stReady []).lr.Holds Config.litReady) ∧
    ((stDone Config.litDone).hsState = .awaitingDone ∧ (stDone Config.litDone).lr.Holds Config.litDone) ∧
    ((stDone notReady).hsState = .awaitingDone ∧ ¬(stDone notReady).lr.Holds Config.litDone) :=
  ⟨⟨rfl, holds_of_lineIs (by decide)⟩, ⟨rfl, not_holds_of_lineIs (by decide)⟩, ⟨rfl, holds_of_lineIs (by decide)⟩,
    rfl, not_holds_of_lineIs (by decide)⟩

theorem witness_BlockBytesAreTransmitted :
    ((stSend 0).hsState = .sending ∧ (stSend 0).idx.toNat < 15) ∧
    ((stSend 14).hsState = .sending ∧ (stSend 14).idx.toNat < 15) ∧
    ((stSend 15).hsState = .sending ∧ (stSend 15).idx.toNat = 15) := by decide

theorem witness_EchoBytesAreCompared :
    ((stEcho 0).hsState = .verifyingEcho ∧ (stEcho 0).txp = false ∧ (stEcho 0).idx.toNat < 15) ∧
    ((stEcho 14).hsState = .verifyingEcho ∧ (stEcho 14).txp = false ∧ (stEcho 14).idx.toNat < 15) ∧
    ((stEcho 15).hsState = .verifyingEcho ∧ (stEcho 15).txp = false ∧ (stEcho 15).idx.toNat = 15) := by decide

theorem witness_VerdictByteIsTransmitted :
    ((stVerdict false).hsState = .verifyingEcho ∧ (stVerdict false).txp = true ∧ (stVerdict false).mism = false) ∧
    ((stVerdict true).hsState = .verifyingEcho ∧ (stVerdict true).txp = true ∧ (stVerdict true).mism = true) := by
  decide

theorem witness_LineResetAndFailWriteOnlyTheirElements :
    (stSend 0).busy = true ∧ Reason.writerNotDetected ≠ .none ∧ Reason.echoMismatch ≠ .none ∧
    Reason.writeFailed ≠ .none := by decide

/-- In Idle none of the transitions is enabled; and at the boundaries: SEND_BYTE not at 15, SEND_LAST not at 14,
ECHO_BYTE not at 15, ECHO_LAST not at 14, a line byte not for NL, PROCEED not after a mismatch. -/
theorem witness_DisabledTransitionsChangeNothing :
    ¬(State.reset.hsState = .awaitingReady) ∧ ¬(State.reset.hsState = .awaitingDone) ∧
    ¬(State.reset.hsState = .sending) ∧ ¬(State.reset.hsState = .verifyingEcho) ∧
    ¬(State.reset.busy = true ∧ Reason.echoMismatch ≠ .none) ∧
    ¬((stSend 15).hsState = .sending ∧ (stSend 15).idx.toNat < 15) ∧
    ¬((stSend 14).hsState = .sending ∧ (stSend 14).idx.toNat = 15) ∧
    ¬((stEcho 15).hsState = .verifyingEcho ∧ (stEcho 15).txp = false ∧ (stEcho 15).idx.toNat < 15) ∧
    ¬((stEcho 14).hsState = .verifyingEcho ∧ (stEcho 14).txp = false ∧ (stEcho 14).idx.toNat = 15) ∧
    ¬((stReady []).hsState = .awaitingReady ∧ (0x0A : Byte) ≠ Config.nl) ∧
    ¬((stVerdict true).hsState = .verifyingEcho ∧ (stVerdict true).txp = true ∧ (stVerdict true).mism = false) := by
  decide

theorem witness_TextBytesArrive :
    ((stReady Config.litReady).rxStream = [] ∧ (stReady Config.litReady).hsState = .awaitingReady ∧
      (stReady Config.litReady).lr.Holds Config.litReady) ∧
    ((stReady []).rxStream = [] ∧ (stReady []).hsState = .awaitingReady ∧ ¬(stReady []).lr.Holds Config.litReady) ∧
    ((stDone Config.litDone).rxStream = [] ∧ (stDone Config.litDone).hsState = .awaitingDone ∧
      (stDone Config.litDone).lr.Holds Config.litDone) ∧
    ((stDone []).rxStream = [] ∧ (stDone []).hsState = .awaitingDone ∧ ¬(stDone []).lr.Holds Config.litDone) ∧
    ((stEcho 14).rxStream = [] ∧ (stEcho 14).hsState = .verifyingEcho ∧ (stEcho 14).txp = false ∧
      (stEcho 14).idx.toNat < 15 ∧ (0x0A : Byte) ∈ (stEcho 14).cfg.ws) ∧
    ((stEcho 15).rxStream = [] ∧ (stEcho 15).hsState = .verifyingEcho ∧ (stEcho 15).txp = false ∧
      (stEcho 15).idx.toNat = 15 ∧ (0x20 : Byte) ∈ (stEcho 15).cfg.ws) ∧
    Config.nl ∈ (stEcho 15).cfg.ws ∧ ((stEcho 15).readingEcho → (stEcho 15).idx.toNat ≤ 15) ∧
    ((0x20 : Byte) ∈ (stReady []).cfg.ws ∧ (0x20 : Byte) ≠ Config.nl) ∧ State.reset.rxReady = false ∧
    (0x57 : Byte) ∉ State.reset.cfg.ws :=
  ⟨⟨rfl, rfl, holds_of_lineIs (by decide)⟩, ⟨rfl, rfl, not_holds_of_lineIs (by decide)⟩,
    ⟨rfl, rfl, holds_of_lineIs (by decide)⟩, ⟨rfl, rfl, not_holds_of_lineIs (by decide)⟩, by decide, by decide,
    by decide, by decide, by decide, by decide, by decide⟩

theorem witness_LiteralSignalsArrive :
    State.reset.cfg.Ok ∧
    ((stReady []).rxStream = [] ∧ (stReady []).lr = LineReader.reset ∧ (stReady []).hsState = .awaitingReady) ∧
    ((stDone []).rxStream = [] ∧ (stDone []).lr = LineReader.reset ∧ (stDone []).hsState = .awaitingDone) ∧
    State.reset.rxReady = false ∧ ((stEcho 15).readingEcho ∧ (stEcho 15).idx.toNat ≤ 15) := by decide

/-- A line within the bound, the line of 64 bytes at it (LR19), and the one of 65 bytes past it (LR20). -/
theorem witness_LineReaderIsExact :
    Config.nl ∈ Config.device.ws ∧ (lrOf Config.litReady).lrOvf = false ∧ Config.litReady.length ≤ 64 ∧
    (lrOf (List.replicate 64 0x78)).lrOvf = false ∧ (lrOf (List.replicate 65 0x78)).lrOvf = true := by
  decide +kernel

/-- The literal and another text in both line states, with either ending. -/
theorem witness_LineMessagesAreJudgedByTrimmedText :
    Config.nl ∈ (stReady []).cfg.ws ∧ Config.nl ∉ Config.litReady ∧ Config.nl ∉ Config.litDone ∧
    Config.nl ∉ notReady ∧ (stReady []).lr = LineReader.reset ∧ (stReady []).hsState = .awaitingReady ∧
    (stDone []).lr = LineReader.reset ∧ (stDone []).hsState = .awaitingDone ∧
    trim (stReady []).cfg.ws Config.litReady = Config.litReady ∧
    trim (stDone []).cfg.ws Config.litDone = Config.litDone ∧
    trim (stReady []).cfg.ws notReady ≠ Config.litReady ∧ trim (stDone []).cfg.ws notReady ≠ Config.litDone := by
  decide

theorem witness_SendingEmitsExactlyTheBlock : (stSend 0).hsState = .sending ∧ (stSend 0).idx = 0 := by decide

/-- A faithful echo, one whose last byte differs (S7), and a short one of 15 bytes. -/
theorem witness_EchoVerdictIsByteForByte :
    ((stEcho 0).hsState = .verifyingEcho ∧ (stEcho 0).idx = 0 ∧ (stEcho 0).mism = false ∧ (stEcho 0).txp = false) ∧
    ([0x0A, 1, 0, 0, 0, 0, 0, 0, 0, 0, 0, 0, 0, 0, 0, 0] : List Byte) = (List.range 16).map (stEcho 0).blk.read ∧
    (List.replicate 16 (1 : Byte)).length = 16 ∧
    List.replicate 16 (1 : Byte) ≠ (List.range 16).map (stEcho 0).blk.read ∧
    (List.replicate 15 (1 : Byte)).length < 16 := by decide

theorem witness_ChannelOutputsFollowTheState :
    (stSend 3).hsState = .sending ∧ ((stVerdict true).hsState = .verifyingEcho ∧ (stVerdict true).txp = true) ∧
    State.reset.txValid = false := by decide

/-- SEND_BYTE transmits, and the states of the invariant that offer a byte. -/
theorem witness_OnlyTheOfferedByteIsTransmitted :
    (∃ t, exec .sendByte (stSend 0) = .next t ∧ t.txStream ≠ (stSend 0).txStream) ∧
    ((stSend 15).Inv ∧ (stSend 15).txValid = true) ∧ ((stVerdict false).Inv ∧ (stVerdict false).txValid = true) :=
  ⟨⟨_, rfl, by decide⟩, ⟨stSend_inv.1, rfl⟩, stVerdict_inv.1, rfl⟩

theorem witness_SessionIgnoresFieldWrites :
    (Event.isChannel .txAccept = true ∧ ∃ t, runEvent .txAccept (stSend 0) = .next t) ∧
    (Event.isChannel (.rxByte 0x0A) = true ∧ ∃ t, runEvent (.rxByte 0x0A) (stEcho 0) = .next t) :=
  ⟨⟨rfl, _, rfl⟩, rfl, _, rfl⟩

/-- Every kind of input, with what it decodes to where the statement asks for it. -/
theorem witness_StepRunsDecodedOperation :
    State.reset.pending = [] ∧
    ({ stE57 with pending := [.hostXn 0x0A0000000000000000] } : State).pending = .hostXn 0x0A0000000000000000 :: [] ∧
    (let s : State := { stReady [] with rxStream := [0x57], pending := [.rxByte] }
     s.pending = .rxByte :: [] ∧ s.rxReady = true ∧ s.rxStream = 0x57 :: [] ∧
       decode s.controlPoint (.rxByte 0x57) = .instr (.arByte 0x57)) ∧
    (let s : State := { stReady [] with pending := [.rxEnd] }
     s.rxReady = true ∧ decode s.controlPoint .rxEnd = .instr .arEnd) ∧
    (let s : State := { stSend 15 with pending := [.txAccept] }
     s.txValid = true ∧ decode s.controlPoint .txAccept = .instr .sendLast) ∧
    ({ stE57 with pending := [.reset] } : State).pending = .reset :: [] ∧
    decodeTableWord 72 0x2C0000000000000001 = some (.start 1) ∧
    (subOperation 94 = false ∧ subOperation 98 = false ∧ subOperation 2 = false ∧ decodeOp 2 0 = .instr .byte0) ∧
    (subOperation 95 = true ∧ subOperation 97 = true) := by decide

/-- Every check of well-formedness, met. -/
theorem witness_DecodeEncodeAgree :
    (Instr.start 3).wellFormed = true ∧ (Instr.clear 2).wellFormed = true ∧
    (Instr.wrCtrlNoCommand 4).wellFormed = true ∧ (Instr.arByte 0x57).wellFormed = true ∧
    (Instr.adByte 0x57).wellFormed = true ∧ (Instr.lineByte 0x57).wellFormed = true ∧
    (Instr.fail .writeFailed).wellFormed = true ∧ (Instr.unmapped24to31 true 7 5).wellFormed = true := by decide

theorem witness_DecodedOperationsAreWellFormed :
    decode (.at .awaitingReady) (.rxByte 0x57) = .instr (.arByte 0x57) ∧
    decode (.at .idle) (.hostXn 0x3F0000000000000005) = .instr (.unmapped24to31 true 7 5) ∧
    HostXn.write 0x3F0000000000000005 = true := by decide

/-- One cycle for each clause. -/
theorem witness_ClockCycleOrdersItsEvents :
    (let p : Pins := ⟨true, true, true, true, some 0⟩
     ({ stReady [] with pending := [.cycle p] } : State).pending = .cycle p :: [] ∧ p.rst = true) ∧
    (let p : Pins := ⟨false, true, true, false, some 0⟩
     let s : State := { stReady [] with rxStream := [0x57], pending := [.cycle p] }
     s.rxReady = true ∧ p.rxValid = true ∧ s.rxStream ≠ []) ∧
    (let p : Pins := ⟨false, true, true, false, none⟩
     let s : State := { stReady [] with pending := [.cycle p] }
     s.rxReady = true ∧ s.rxStream = [] ∧ p.rxEnd = true) ∧
    (let p : Pins := ⟨false, false, false, true, none⟩
     let s : State := { stSend 15 with pending := [.cycle p] }
     s.txValid = true ∧ p.txReady = true) ∧
    (let p : Pins := ⟨false, true, true, true, some 0⟩
     let s : State := { State.reset with rxStream := [0x57], pending := [.cycle p] }
     s.rxReady = false ∧ s.txValid = false ∧ p.rst = false) := by decide

theorem witness_InputsNotTakenLeaveTheDeviceAlone :
    (({ State.reset with pending := [.rxByte] } : State).pending = .rxByte :: [] ∧ State.reset.rxReady = false) ∧
    ((stReady []).rxReady = true ∧ (stReady []).rxStream = []) ∧
    ((stSend 0).rxReady = false ∧ (stReady []).txValid = false) ∧
    ({ State.reset with pending := [.sent 0x57] } : State).pending = .sent 0x57 :: [] := by decide

/-- The state of the invariants with one input of the device pending. -/
def withInput (i : Input) (s : State) : State := { s with pending := [i] }

/-- Pending inputs are no part of the invariants. -/
theorem inv_withInput {s : State} (i : Input) (h : s.Inv ∧ s.OutcomeInv) :
    (withInput i s).Inv ∧ (withInput i s).OutcomeInv := by
  obtain ⟨⟨a1, a2, a3, a4, a5, a6, a7, a8, a9, a10, a11, a12, a13⟩, b1, b2, b3, b4, b5⟩ := h
  exact ⟨⟨a1, a2, a3, a4, a5, a6, a7, a8, a9, a10, a11, a12, a13⟩, b1, b2, b3, b4, b5⟩

/-- SEND_LAST, the last echo byte's verdict, AD_NL_MATCH's RxEnd form and CLEAR, each as a step from a state of the
invariants. -/
theorem witness_StepKeepsInvariant :
    ((withInput .txAccept (stSend 15)).Inv ∧ (withInput .txAccept (stSend 15)).deviceOnly ∧
      ∃ t, step (withInput .txAccept (stSend 15)) = .next t) ∧
    ((withInput .txAccept (stVerdict false)).Inv ∧ (withInput .txAccept (stVerdict false)).deviceOnly ∧
      ∃ t, step (withInput .txAccept (stVerdict false)) = .next t) ∧
    ((withInput (.hostXn 0x2C0000000000000002) stFailed).Inv ∧
      (withInput (.hostXn 0x2C0000000000000002) stFailed).deviceOnly ∧
      ∃ t, step (withInput (.hostXn 0x2C0000000000000002) stFailed) = .next t) :=
  ⟨⟨(inv_withInput _ stSend_inv).1, rfl, _, rfl⟩, ⟨(inv_withInput _ stVerdict_inv).1, rfl, _, rfl⟩,
    (inv_withInput _ stFailed_inv).1, rfl, _, rfl⟩

theorem witness_DeviceStepsNeverStop :
    (withInput .txAccept (stSend 15)).Inv ∧ (withInput .txAccept (stSend 15)).deviceOnly :=
  ⟨(inv_withInput _ stSend_inv).1, rfl⟩

/-- A step into Success, and one that leaves Failed. -/
theorem witness_StepKeepsOutcomeTable :
    ((withInput .rxEnd (stDone Config.litDone)).Inv ∧ (withInput .rxEnd (stDone Config.litDone)).OutcomeInv ∧
      (withInput .rxEnd (stDone Config.litDone)).deviceOnly ∧
      ∃ t, step (withInput .rxEnd (stDone Config.litDone)) = .next t) ∧
    ((withInput (.hostXn 0x2C0000000000000001) stFailed).Inv ∧
      (withInput (.hostXn 0x2C0000000000000001) stFailed).OutcomeInv ∧
      ∃ t, step (withInput (.hostXn 0x2C0000000000000001) stFailed) = .next t) :=
  ⟨⟨(inv_withInput _ stDone_inv).1, (inv_withInput _ stDone_inv).2, rfl, _, rfl⟩, (inv_withInput _ stFailed_inv).1,
    (inv_withInput _ stFailed_inv).2, _, rfl⟩

/-- Sending at byte 15 with fifteen bytes of the block on the wire after an earlier byte. -/
theorem witness_StepKeepsSessionTrace :
    let s : State := { withInput .txAccept (stSend 15) with txStream := 0x00 :: (stSend 15).sessionTx }
    s.Inv ∧ s.deviceOnly ∧ s.txStream = [0x00] ++ s.sessionTx ∧ ∃ t, step s = .next t := by
  obtain ⟨a1, a2, a3, a4, a5, a6, a7, a8, a9, a10, a11, a12, a13⟩ := (inv_withInput .txAccept stSend_inv).1
  exact ⟨⟨a1, a2, a3, a4, a5, a6, a7, a8, a9, a10, a11, a12, a13⟩, rfl, rfl, _, rfl⟩

/-- Busy states of the invariant, an enabled event that ends nothing and one that moves on. -/
theorem witness_ChannelEventsBringTheSessionOn :
    ((stEcho 15).Inv ∧ (stEcho 15).busy = true ∧ (stEcho 15).enables (.rxByte 0) = true ∧
      (stEcho 15).lineContinues (.rxByte 0) = false) ∧
    ((stDone Config.litDone).Inv ∧ (stDone Config.litDone).busy = true ∧
      (stDone Config.litDone).enables (.rxByte 0x57) = true ∧
      (stDone Config.litDone).lineContinues (.rxByte 0x57) = true) :=
  ⟨⟨stEcho_inv.1, rfl, rfl, rfl⟩, stDone_inv.1, rfl, rfl, rfl⟩

/-- What the environment of `fairRun` presents: it accepts the verdict byte, then ends the read. -/
def fairIns : Nat → List Input
  | 0 => [.txAccept]
  | 1 => [.rxEnd]
  | _ => []

/-- A run from the waiting PROCEED to Failed, which then goes on for ever. -/
def fairRun : Nat → State
  | 0 => stVerdict false
  | 1 => (stVerdict false).sendProceed.answer .silent
  | _ => ((stVerdict false).sendProceed.answer .silent).doneEnd.answer .silent

/-- A fair run with a session that waits to write, then to read, and ends. -/
theorem witness_FairChannelEndsEverySession :
    Run fairIns fairRun ∧ ChFair fairIns fairRun ∧ (fairRun 0).busy = true ∧ (fairRun 1).busy = true := by
  refine ⟨⟨fun n => ?_, fun n => ?_⟩, ⟨fun n h => ?_, fun n h => ?_, fun n h => ?_⟩, rfl, rfl⟩
  · match n with
    | 0 | 1 | _ + 2 => rfl
  · match n with
    | 0 | 1 | _ + 2 => rfl
  · match n, h with
    | 1, _ => exact ⟨1, Nat.le_refl _, .inr (.inl ⟨_, rfl⟩)⟩
  · match n, h with
    | 0, h => exact absurd h (by decide)
    | 1, _ => exact ⟨1, Nat.le_refl _, .inr (.inl ⟨_, rfl⟩)⟩
    | _ + 2, h => exact absurd h (by change ¬(HsState.failed = .awaitingReady ∨ HsState.failed = .awaitingDone); decide)
  · match n, h with
    | 0, _ => exact ⟨0, Nat.le_refl _, .inr ⟨_, rfl⟩⟩
    | 1, h => exact absurd h (by decide)
    | _ + 2, h => exact absurd h (by change ¬(false = true); decide)

/-- A channel event, a command and reset that change `hs_state`. -/
theorem witness_ProtocolStateMovesOnlyAlongItsGraph :
    ((∀ n w, Event.txAccept ≠ .word n w) ∧ (∀ r d, Event.txAccept ≠ .op r d) ∧
      ∃ t, runEvent .txAccept (stSend 15) = .next t ∧ t.hsState ≠ (stSend 15).hsState) ∧
    (∃ t, runEvent (.hostXn 0x2C0000000000000001) State.reset = .next t ∧ t.hsState ≠ State.reset.hsState) ∧
    (∃ t, runEvent .reset stSuccess = .next t ∧ t.hsState ≠ stSuccess.hsState) :=
  ⟨⟨nofun, nofun, _, rfl, by decide⟩, ⟨_, rfl, by decide⟩, ⟨_, rfl, by decide⟩⟩

end Sys2Proof.Tests
end

section
/-! PROOFS. What the fetch takes for each kind of input, and the step as `exec` of the operation that is decoded (R8). -/

namespace Sys2Proof.Machine

open Sys2Proof

/-! ### The fetch, an equation per kind of input that makes an event -/

section
variable {s : State} {ps : List Input}

theorem fetch_of_nil (h : s.pending = []) : fetch s = .quiet s := by simp [fetch, h]

theorem fetch_of_hostXn {xn : HostXn} (h : s.pending = .hostXn xn :: ps) :
    fetch s = .event (.hostXn xn) (s.setPending ps) := by simp [fetch, h]

theorem fetch_of_rxByte {b : Byte} {bs : List Byte} (h : s.pending = .rxByte :: ps) (hr : s.rxReady = true)
    (hb : s.rxStream = b :: bs) : fetch s = .event (.rxByte b) ((s.setPending ps).setRxStream bs) := by
  simp [fetch, h, hr, hb]

theorem fetch_of_rxEnd (h : s.pending = .rxEnd :: ps) (hr : s.rxReady = true) :
    fetch s = .event .rxEnd (s.setPending ps) := by simp [fetch, h, hr]

theorem fetch_of_txAccept (h : s.pending = .txAccept :: ps) (ht : s.txValid = true) :
    fetch s = .event .txAccept (s.setPending ps) := by simp [fetch, h, ht]

theorem fetch_of_reset (h : s.pending = .reset :: ps) : fetch s = .event .reset (s.setPending ps) := by
  simp [fetch, h]

theorem fetch_of_word {n w : Nat} (h : s.pending = .word n w :: ps) :
    fetch s = .event (.word n w) (s.setPending ps) := by simp [fetch, h]

theorem fetch_of_op {r : BitVec 8} {d : Block} (h : s.pending = .op r d :: ps) (hr : subOperation r = false) :
    fetch s = .event (.op r d) (s.setPending ps) := by simp [fetch, h, hr]

/-- A row that is only a part of steps is taken and makes no event (log entry 16). -/
theorem fetch_of_subOperation {r : BitVec 8} {d : Block} (h : s.pending = .op r d :: ps)
    (hr : subOperation r = true) : fetch s = .quiet ((s.setPending ps).answer .noStep) := by simp [fetch, h, hr]

end

/-! ### The step as the decoded operation -/

/-- Taking an input does not move the control point, so the event decodes as it would have before. -/
theorem State.FetchedFrom.controlPoint {s t : State} (h : s.FetchedFrom t) : t.controlPoint = s.controlPoint := by
  simp only [State.controlPoint, State.isReadyLine, State.isDoneLine, h.hsState, h.idx, h.txp, h.mism, h.lr]

/-- The step that fetches an event runs what the event decodes to at the control point before the fetch. -/
theorem step_of_fetch_of_decode {e : Event} {i : Instr} {s s' : State} (hf : fetch s = .event e s')
    (hd : decode s.controlPoint e = .instr i) : step s = exec i s' := by
  have hcp : s'.controlPoint = s.controlPoint := ((fetch_fetchedFrom s).2 e s' hf).controlPoint
  rw [step_of_event hf, runEvent_of_decode (hcp ▸ hd)]

/-- A bare word decodes, at every control point, to what the table reads in it (log entry 7). -/
theorem decode_word_of_decodeTableWord {n w : Nat} {i : Instr} (c : ControlPoint) (h : decodeTableWord n w = some i) :
    decode c (.word n w) = .instr i := by simp [decode, h]

/-- Settles O47: one clause per kind of input, each the fetch of that input and the operation that it decodes to. -/
theorem stepRunsDecodedOperation : Obligations.StepRunsDecodedOperation := by
  intro s ps i
  refine ⟨fun h => ?empty, fun xn h => ?host, fun b bs h hr hb hd => ?rxByte, fun h hr hd => ?rxEnd,
    fun h ht hd => ?txAccept, fun h => ?reset, fun n w h hw => ?word, fun r d h hr hd => ?op,
    fun r d h hr => ?subOperation⟩
  case empty => exact step_of_quiet (fetch_of_nil h)
  case host => exact step_of_fetch_of_decode (fetch_of_hostXn h) rfl
  case rxByte => exact step_of_fetch_of_decode (fetch_of_rxByte h hr hb) hd
  case rxEnd => exact step_of_fetch_of_decode (fetch_of_rxEnd h hr) hd
  case txAccept => exact step_of_fetch_of_decode (fetch_of_txAccept h ht) hd
  case reset => exact step_of_fetch_of_decode (fetch_of_reset h) rfl
  case word => exact step_of_fetch_of_decode (fetch_of_word h) (decode_word_of_decodeTableWord _ hw)
  case op => exact step_of_fetch_of_decode (fetch_of_op h hr) hd
  case subOperation => exact step_of_quiet (fetch_of_subOperation h hr)

end Sys2Proof.Machine
end

section
/-! PROOFS. The controller's moves: R213 to R228 as one relation between a state, a channel event and the state after,
tied to the event that runs it (R234). -/

namespace Sys2Proof.Machine

open Sys2Proof

/-- What a channel event makes the controller do, where R234 has a row for it (R214 to R228). -/
inductive State.Moves (s : State) : Event → State → Prop
  | readLine {b : Byte} : s.hsState = .awaitingReady ∨ s.hsState = .awaitingDone → b ≠ Config.nl →
      s.Moves (.rxByte b) (s.readLineByte b)
  | judgeReady : s.hsState = .awaitingReady → s.Moves (.rxByte Config.nl) s.judgeReady
  | readyEnd : s.hsState = .awaitingReady → s.Moves .rxEnd s.readyEnd
  | sendByte : s.hsState = .sending → s.idx < 15 → s.Moves .txAccept s.sendByte
  | sendLast : s.hsState = .sending → s.idx = 15 → s.Moves .txAccept s.sendLast
  | echoByte {b : Byte} : s.readingEcho → s.idx < 15 → s.Moves (.rxByte b) (s.echoByte b)
  | echoLast {b : Byte} : s.readingEcho → s.idx = 15 → s.Moves (.rxByte b) (s.echoLast b)
  | echoEnd : s.readingEcho → s.Moves .rxEnd s.echoEnd
  | sendProceed : s.verdictWaits false → s.Moves .txAccept s.sendProceed
  | sendAbort : s.verdictWaits true → s.Moves .txAccept s.sendAbort
  | judgeDone : s.hsState = .awaitingDone → s.Moves (.rxByte Config.nl) s.judgeDone
  | doneEnd : s.hsState = .awaitingDone → s.Moves .rxEnd s.doneEnd

variable {e : Event} {s t u : State} {b : Byte}

/-! ### The moves and the events that run them -/

/-- The transition on a byte is the move of `RxByte`. -/
theorem moves_of_rxTransition (h : s.rxTransition b = some t) : s.Moves (.rxByte b) t := by
  rcases rxTransition_cases h with ⟨hs, hb, rfl⟩ | ⟨hs, rfl, rfl⟩ | ⟨hs, rfl, rfl⟩ | ⟨hs, hi, rfl⟩ | ⟨hs, hi, rfl⟩
  · exact .readLine hs hb
  · exact .judgeReady hs
  · exact .judgeDone hs
  · exact .echoByte hs hi
  · exact .echoLast hs hi

/-- And the move of `RxByte` is the transition on the byte. -/
theorem rxTransition_of_moves (h : s.Moves (.rxByte b) t) : s.rxTransition b = some t := by
  unfold State.rxTransition
  cases h with
  | readLine hs hb => rcases hs with hs | hs <;> simp [hs, hb]
  | judgeReady hs => simp [hs]
  | judgeDone hs => simp [hs]
  | echoByte hs hi => simp only [hs.1, hs.2, hi, Bool.false_eq_true, if_true, if_false]
  | echoLast hs hi => simp [hs.1, hs.2, hi]

/-- The end of a ready line that is the literal (R215). -/
theorem moves_readyMatch (hs : s.hsState = .awaitingReady) (hl : s.isReadyLine = true) :
    s.Moves (.rxByte Config.nl) s.readyMatch := by
  rw [← judgeReady_of_match hl]; exact .judgeReady hs

/-- The end of any other ready line (R216). -/
theorem moves_readyOther (hs : s.hsState = .awaitingReady) (hl : s.isReadyLine = false) :
    s.Moves (.rxByte Config.nl) s.readyOther := by
  rw [← judgeReady_of_other hl]; exact .judgeReady hs

/-- The end of a done line that is the literal (R226). -/
theorem moves_doneMatch (hs : s.hsState = .awaitingDone) (hl : s.isDoneLine = true) :
    s.Moves (.rxByte Config.nl) s.doneMatch := by
  rw [← judgeDone_of_match hl]; exact .judgeDone hs

/-- The end of any other done line (R227). -/
theorem moves_doneOther (hs : s.hsState = .awaitingDone) (hl : s.isDoneLine = false) :
    s.Moves (.rxByte Config.nl) s.doneOther := by
  rw [← judgeDone_of_other hl]; exact .judgeDone hs

/-- A move is what its event runs (R234). -/
theorem runEvent_of_moves (h : s.Moves e u) : runEvent e s = .next (u.answer .silent) := by
  cases h with
  | readLine hs hb => exact runEvent_rxByte (rxTransition_of_moves (.readLine hs hb))
  | judgeReady hs => exact runEvent_rxByte (rxTransition_of_moves (.judgeReady hs))
  | judgeDone hs => exact runEvent_rxByte (rxTransition_of_moves (.judgeDone hs))
  | echoByte hs hi => exact runEvent_rxByte (rxTransition_of_moves (.echoByte hs hi))
  | echoLast hs hi => exact runEvent_rxByte (rxTransition_of_moves (.echoLast hs hi))
  | readyEnd hs =>
    rw [runEvent_of_decode (i := .arEnd) (by simp [decode, decodeRxEnd, State.controlPoint, hs])]
    exact whenEnabled_of hs _ _
  | doneEnd hs =>
    rw [runEvent_of_decode (i := .adEnd) (by simp [decode, decodeRxEnd, State.controlPoint, hs])]
    exact whenEnabled_of hs _ _
  | echoEnd hs =>
    rw [runEvent_of_decode (i := .echoEnd) (by simp [decode, decodeRxEnd, State.controlPoint, hs.1, hs.2])]
    exact whenEnabled_of hs _ _
  | sendByte hs hi =>
    rw [runEvent_of_decode (i := .sendByte)
      (by simp only [decode, decodeTxAccept, State.controlPoint, hs, hi, if_true])]
    exact whenEnabled_of ⟨hs, hi⟩ _ _
  | sendLast hs hi =>
    rw [runEvent_of_decode (i := .sendLast) (by simp [decode, decodeTxAccept, State.controlPoint, hs, hi])]
    exact whenEnabled_of ⟨hs, hi⟩ _ _
  | sendProceed hs =>
    rw [runEvent_of_decode (i := .verdictProceed)
      (by simp [decode, decodeTxAccept, State.controlPoint, hs.1, hs.2.1, hs.2.2])]
    exact whenEnabled_of hs _ _
  | sendAbort hs =>
    rw [runEvent_of_decode (i := .verdictAbort)
      (by simp [decode, decodeTxAccept, State.controlPoint, hs.1, hs.2.1, hs.2.2])]
    exact whenEnabled_of hs _ _

/-- A channel event moves the controller, or R234 has no row for it and the step stops. -/
theorem moves_or_noTransition (he : e.isChannel = true) (s : State) :
    (∃ u, s.Moves e u) ∨ runEvent e s = .fault .noTransition := by
  have rejects (hd : decode s.controlPoint e = .rejected .noTransition) : runEvent e s = .fault .noTransition := by
    rw [runEvent, hd]; rfl
  cases e with
  | rxByte b =>
    cases hs : s.hsState with
    | awaitingReady =>
      rcases eq_or_ne b Config.nl with rfl | hb
      · exact .inl ⟨_, .judgeReady hs⟩
      · exact .inl ⟨_, .readLine (.inl hs) hb⟩
    | awaitingDone =>
      rcases eq_or_ne b Config.nl with rfl | hb
      · exact .inl ⟨_, .judgeDone hs⟩
      · exact .inl ⟨_, .readLine (.inr hs) hb⟩
    | verifyingEcho =>
      cases ht : s.txp with
      | true => exact .inr (rejects (by simp [decode, decodeRxByte, State.controlPoint, hs, ht]))
      | false =>
        by_cases hl : s.idx < 15
        · exact .inl ⟨_, .echoByte ⟨hs, ht⟩ hl⟩
        · by_cases hi : s.idx = 15
          · exact .inl ⟨_, .echoLast ⟨hs, ht⟩ hi⟩
          · exact .inr (rejects (by
              simp only [decode, decodeRxByte, State.controlPoint, hs, ht, hl, hi, Bool.false_eq_true, if_false]))
    | idle | sending | success | failed =>
      exact .inr (rejects (by simp [decode, decodeRxByte, State.controlPoint, hs]))
  | rxEnd =>
    cases hs : s.hsState with
    | awaitingReady => exact .inl ⟨_, .readyEnd hs⟩
    | awaitingDone => exact .inl ⟨_, .doneEnd hs⟩
    | verifyingEcho =>
      cases ht : s.txp with
      | false => exact .inl ⟨_, .echoEnd ⟨hs, ht⟩⟩
      | true => exact .inr (rejects (by simp [decode, decodeRxEnd, State.controlPoint, hs, ht]))
    | idle | sending | success | failed =>
      exact .inr (rejects (by simp [decode, decodeRxEnd, State.controlPoint, hs]))
  | txAccept =>
    cases hs : s.hsState with
    | sending =>
      by_cases hl : s.idx < 15
      · exact .inl ⟨_, .sendByte hs hl⟩
      · by_cases hi : s.idx = 15
        · exact .inl ⟨_, .sendLast hs hi⟩
        · exact .inr (rejects (by simp only [decode, decodeTxAccept, State.controlPoint, hs, hl, hi, if_false]))
    | verifyingEcho =>
      cases ht : s.txp with
      | true =>
        cases hm : s.mism with
        | true => exact .inl ⟨_, .sendAbort ⟨hs, ht, hm⟩⟩
        | false => exact .inl ⟨_, .sendProceed ⟨hs, ht, hm⟩⟩
      | false => exact .inr (rejects (by simp [decode, decodeTxAccept, State.controlPoint, hs, ht]))
    | idle | awaitingReady | awaitingDone | success | failed =>
      exact .inr (rejects (by simp [decode, decodeTxAccept, State.controlPoint, hs]))
  | hostXn _ | reset | word _ _ | op _ _ => cases he

/-- What a channel event answers is the state of its move. -/
theorem moves_of_runEvent (he : e.isChannel = true) (h : runEvent e s = .next t) :
    ∃ u, s.Moves e u ∧ t = u.answer .silent := by
  rcases moves_or_noTransition he s with ⟨u, hu⟩ | hf
  · exact ⟨u, hu, by rw [runEvent_of_moves hu] at h; cases h; rfl⟩
  · rw [hf] at h; cases h

/-! ### What no move touches -/

/-- What every move leaves alone: the configuration, the field registers, the latched block and the pending inputs. -/
structure State.SameSetup (s t : State) : Prop where
  cfg : t.cfg = s.cfg
  F : t.F = s.F
  blk : t.blk = s.blk
  pending : t.pending = s.pending

theorem State.SameOutside.sameSetup (h : s.SameOutside t) : s.SameSetup t := ⟨h.cfg, h.F, h.blk, h.pending⟩

theorem State.Moves.sameSetup (h : s.Moves e t) : s.SameSetup t := by
  cases h with
  | readyEnd _ =>
    obtain ⟨hcfg, hF, hblk, _, _, hpending⟩ := judgeReady_sameOutside (s.setRxEnded true)
    exact ⟨hcfg, hF, hblk, hpending⟩
  | doneEnd _ =>
    obtain ⟨hcfg, hF, hblk, _, _, hpending⟩ := judgeDone_sameOutside (s.setRxEnded true)
    exact ⟨hcfg, hF, hblk, hpending⟩
  | judgeReady _ => exact (judgeReady_sameOutside s).sameSetup
  | judgeDone _ => exact (judgeDone_sameOutside s).sameSetup
  | echoByte _ _ => rw [State.echoByte, compareEcho_eq]; exact ⟨rfl, rfl, rfl, rfl⟩
  | echoLast _ _ => rw [State.echoLast, compareEcho_eq]; exact ⟨rfl, rfl, rfl, rfl⟩
  | readLine _ _ | sendByte _ _ | sendLast _ _ | echoEnd _ | sendProceed _ | sendAbort _ =>
    exact ⟨rfl, rfl, rfl, rfl⟩

/-! ### The field registers play no part in a move -/

/-- The state with other contents of the field registers. -/
def State.setFields (G : Fields) (s : State) : State := { s with F := G }

theorem judgeReady_setFields (G : Fields) (s : State) : (s.setFields G).judgeReady = s.judgeReady.setFields G := by
  unfold State.judgeReady; rw [apply_ite (State.setFields G)]; rfl

theorem judgeDone_setFields (G : Fields) (s : State) : (s.setFields G).judgeDone = s.judgeDone.setFields G := by
  unfold State.judgeDone; rw [apply_ite (State.setFields G)]; rfl

theorem compareEcho_setFields (G : Fields) (b : Byte) (s : State) :
    (s.setFields G).compareEcho b = (s.compareEcho b).setFields G := by
  rw [compareEcho_eq, compareEcho_eq]; rfl

/-- The same event makes the same move whatever the field registers hold (R23, R77). -/
theorem State.Moves.setFields (G : Fields) (h : s.Moves e t) : (s.setFields G).Moves e (t.setFields G) := by
  cases h with
  | readLine hs hb => exact .readLine (s := s.setFields G) hs hb
  | judgeReady hs => rw [← judgeReady_setFields]; exact .judgeReady hs
  | judgeDone hs => rw [← judgeDone_setFields]; exact .judgeDone hs
  | readyEnd hs =>
    rw [State.readyEnd, ← judgeReady_setFields]; exact .readyEnd (s := s.setFields G) hs
  | doneEnd hs =>
    rw [State.doneEnd, ← judgeDone_setFields]; exact .doneEnd (s := s.setFields G) hs
  | echoByte hs hi =>
    change (s.setFields G).Moves _ (((s.compareEcho _).setFields G).setIdx (s.idx + 1))
    rw [← compareEcho_setFields]; exact .echoByte (s := s.setFields G) hs hi
  | echoLast hs hi =>
    change (s.setFields G).Moves _ ((((s.compareEcho _).setFields G).setIdx 16).setTxp true)
    rw [← compareEcho_setFields]; exact .echoLast (s := s.setFields G) hs hi
  | sendByte hs hi => exact .sendByte (s := s.setFields G) hs hi
  | sendLast hs hi => exact .sendLast (s := s.setFields G) hs hi
  | echoEnd hs => exact .echoEnd (s := s.setFields G) hs
  | sendProceed hs => exact .sendProceed (s := s.setFields G) hs
  | sendAbort hs => exact .sendAbort (s := s.setFields G) hs

/-- Settles O46: the event makes a move, the move does not look at the field registers, and the event runs the move. -/
theorem sessionIgnoresFieldWrites : Obligations.SessionIgnoresFieldWrites := by
  intro e s t G he h
  obtain ⟨u, hu, rfl⟩ := moves_of_runEvent he h
  exact runEvent_of_moves (hu.setFields G)

end Sys2Proof.Machine
end

section
/-! PROOFS. What an operation can do to the state, said once for all hundred rows, and what that leaves alone. -/

namespace Sys2Proof.Machine

open Sys2Proof

/-- The host write of a field register (R173 to R181). -/
def writeOf : Field → Word → Instr
  | .blockId => .wrFBlockId
  | .asdoEnabled => .wrFAsdoEnabled
  | .approachDirection => .wrFApproachDirection
  | .version => .wrFVersion
  | .applicationCode => .wrFApplicationCode
  | .doorEnable => .wrFDoorEnable
  | .stopZoneLength => .wrFStopZoneLength
  | .stationId => .wrFStationId
  | .platformId => .wrFPlatformId

/-- What running an operation can leave, and which operations can leave it. -/
inductive ExecEffect (s : State) : Instr → State → Prop
  /-- Only the answer: evaluations, reads, bus errors, refused commands and transitions that are not enabled. -/
  | answers {i : Instr} (o : Output) : ExecEffect s i (s.answer o)
  | writesField (f : Field) (v : Word) : ExecEffect s (writeOf f v) ((s.setField f v).answer (.host 0 false))
  | starts {i : Instr} {v : Word} : i = .start v ∨ i = .ctrl v → s.busy = false →
      ExecEffect s i (s.startSession.answer (.host 0 false))
  | clears {i : Instr} {v : Word} : i = .clear v ∨ i = .ctrl v → s.done = true →
      ExecEffect s i (s.clearSession.answer (.host 0 false))
  | moves {i : Instr} {e : Event} {u : State} : s.Moves e u → ExecEffect s i (u.answer .silent)
  | delivers {i : Instr} {bs : List Byte} {t : State} : State.deliver bs s = .next t → ExecEffect s i t
  | resetsLine : ExecEffect s .lineReset (s.lineReset.answer .silent)
  | fails (r : Reason) : s.busy = true → r ≠ .none → ExecEffect s (.fail r) ((s.fail r).answer .silent)
  | resets : ExecEffect s .reset (s.resetDevice.answer .silent)

variable {i : Instr} {s t : State}

/-- A transition under the guard of its row is a move, or answers that there was no step. -/
theorem execEffect_of_whenEnabled {p : Prop} [Decidable p] {e : Event} {a : State} (hp : p → s.Moves e a)
    (h : whenEnabled p a s = .next t) : ExecEffect s i t := by
  rcases whenEnabled_next h with ⟨hq, rfl⟩ | ⟨_, rfl⟩
  · exact .moves (hp hq)
  · exact .answers _

theorem execEffect_start {v : Word} (h : execStart v s = .next t) : ExecEffect s (.start v) t := by
  cases hostWrite_next h
  cases hb : s.busy with
  | true => rw [commandStart_of_busy hb]; exact .answers _
  | false => rw [commandStart_of_not_busy hb]; exact .starts (.inl rfl) hb

theorem execEffect_clear {v : Word} (h : execClear v s = .next t) : ExecEffect s (.clear v) t := by
  cases hostWrite_next h
  cases hd : s.done with
  | true => rw [commandClear_of_done hd]; exact .clears (.inl rfl) hd
  | false => rw [commandClear_of_not_done hd]; exact .answers _

theorem execEffect_ctrl {v : Word} (h : execCtrl v s = .next t) : ExecEffect s (.ctrl v) t := by
  cases hostWrite_next h
  rcases commandCtrl_cases v s with ⟨hb, hc⟩ | ⟨hd, hc⟩ | hc <;> rw [hc]
  · exact .starts (.inr rfl) hb
  · exact .clears (.inr rfl) hd
  · exact .answers _

theorem execEffect_fail {r : Reason} (h : execFail r s = .next t) : ExecEffect s (.fail r) t := by
  rcases whenEnabled_next h with ⟨⟨hb, hr⟩, rfl⟩ | ⟨_, rfl⟩
  · exact .fails r hb hr
  · exact .answers _

theorem execEffect_ws {b : Byte} (h : execWs b s = .next t) : ExecEffect s (.ws b) t := by
  unfold execWs at h
  split at h
  · exact .delivers h
  · cases h; exact .answers _

/-- EVERYTHING AN OPERATION CAN DO, over all rows of the table. -/
theorem execEffect_of_exec (h : exec i s = .next t) : ExecEffect s i t := by
  cases i with
  | wrFBlockId v => cases h; exact .writesField .blockId v
  | wrFAsdoEnabled v => cases h; exact .writesField .asdoEnabled v
  | wrFApproachDirection v => cases h; exact .writesField .approachDirection v
  | wrFVersion v => cases h; exact .writesField .version v
  | wrFApplicationCode v => cases h; exact .writesField .applicationCode v
  | wrFDoorEnable v => cases h; exact .writesField .doorEnable v
  | wrFStopZoneLength v => cases h; exact .writesField .stopZoneLength v
  | wrFStationId v => cases h; exact .writesField .stationId v
  | wrFPlatformId v => cases h; exact .writesField .platformId v
  | start v => exact execEffect_start h
  | clear v => exact execEffect_clear h
  | ctrl v => exact execEffect_ctrl h
  | arByte b => exact execEffect_of_whenEnabled (fun hp => .readLine (.inl hp.1) hp.2) h
  | adByte b => exact execEffect_of_whenEnabled (fun hp => .readLine (.inr hp.1) hp.2) h
  | lineByte b => exact execEffect_of_whenEnabled (fun hp => .readLine hp.1 hp.2) h
  | arNlMatch => exact execEffect_of_whenEnabled (fun hp => moves_readyMatch hp.1 hp.2) h
  | arNlOther => exact execEffect_of_whenEnabled (fun hp => moves_readyOther hp.1 hp.2) h
  | arEnd => exact execEffect_of_whenEnabled .readyEnd h
  | sendByte => exact execEffect_of_whenEnabled (fun hp => .sendByte hp.1 hp.2) h
  | sendLast => exact execEffect_of_whenEnabled (fun hp => .sendLast hp.1 hp.2) h
  | echoByte b => exact execEffect_of_whenEnabled (fun hp => .echoByte hp.1 hp.2) h
  | echoLast b => exact execEffect_of_whenEnabled (fun hp => .echoLast hp.1 hp.2) h
  | echoEnd => exact execEffect_of_whenEnabled .echoEnd h
  | verdictProceed | proceed => exact execEffect_of_whenEnabled .sendProceed h
  | verdictAbort | abort => exact execEffect_of_whenEnabled .sendAbort h
  | adNlMatch => exact execEffect_of_whenEnabled (fun hp => moves_doneMatch hp.1 hp.2) h
  | adNlOther => exact execEffect_of_whenEnabled (fun hp => moves_doneOther hp.1 hp.2) h
  | adEnd => exact execEffect_of_whenEnabled .doneEnd h
  | litReady | litDone | nl => exact .delivers h
  | ws b => exact execEffect_ws h
  | fail r => exact execEffect_fail h
  | lineReset => cases h; exact .resetsLine
  | reset => cases h; exact .resets
  | _ => cases h; exact .answers _

/-! ### What operations leave alone -/

/-- No operation touches the configuration or the pending inputs. -/
theorem exec_cfg_pending (h : exec i s = .next t) : t.cfg = s.cfg ∧ t.pending = s.pending := by
  cases execEffect_of_exec h with
  | moves hm => exact ⟨hm.sameSetup.cfg, hm.sameSetup.pending⟩
  | delivers hd => exact ⟨(deliver_sameOutside hd).cfg, (deliver_sameOutside hd).pending⟩
  | starts _ _ => simp
  | answers _ | writesField _ _ | clears _ _ | resetsLine | fails _ _ _ | resets => exact ⟨rfl, rfl⟩

/-- Settles O24: of all that an operation can do, only the write of a field and reset reach the field registers. -/
theorem fieldsChangeOnlyByFieldWriteOrReset : Obligations.FieldsChangeOnlyByFieldWriteOrReset := by
  intro i s t h hne
  cases execEffect_of_exec h with
  | resets => exact .inl rfl
  | writesField f v => exact .inr ⟨v, by cases f <;> simp [writeOf]⟩
  | moves hm => exact absurd hm.sameSetup.F hne
  | delivers hd => exact absurd (deliver_sameOutside hd).F hne
  | starts _ _ => simp at hne
  | answers _ | clears _ _ | resetsLine | fails _ _ _ => exact absurd rfl hne

/-- A session that has ended is not busy (R35). -/
theorem busy_of_done (h : s.done = true) : s.busy = false := by
  cases hs : s.hsState with
  | success | failed => simp [State.busy, hs, HsState.busy]
  | idle | awaitingReady | sending | verifyingEcho | awaitingDone => simp [State.done, hs, HsState.done] at h

/-- Settles O25: only an accepted START, an accepted CLEAR and reset reach the latched block, and a busy session
accepts neither command. -/
theorem latchedBlockChangesOnlyByCommandOrReset : Obligations.LatchedBlockChangesOnlyByCommandOrReset := by
  intro i s t h hne
  cases execEffect_of_exec h with
  | resets => exact .inl rfl
  | starts hi hb => exact .inr ⟨hb, _, hi.imp_right .inr⟩
  | clears hi hd => exact .inr ⟨busy_of_done hd, _, .inr hi⟩
  | moves hm => exact absurd hm.sameSetup.blk hne
  | delivers hd => exact absurd (deliver_sameOutside hd).blk hne
  | answers _ | writesField _ _ | resetsLine | fails _ _ _ => exact absurd rfl hne

end Sys2Proof.Machine
end

section
/-! PROOFS. The invariant on the elements of R20, read as one row per protocol state, and that START, CLEAR, reset and
every move of the controller lead to it (R27 to R34, R192, R234). -/

namespace Sys2Proof.Machine

open Sys2Proof

/-! ### The invariant, a row per protocol state -/

/-- What the invariant says of the control elements where `hs_state` is the one given. -/
def State.Row (s : State) : HsState → Prop
  | .idle => s.reason = .none ∧ s.txp = false ∧
      s.blk = [] ∧ s.idx = 0 ∧ s.mism = false ∧ s.rxEnded = false ∧ s.lr = LineReader.reset
  | .awaitingReady => s.reason = .none ∧ s.txp = false ∧ s.idx = 0 ∧ s.mism = false ∧ s.rxEnded = false
  | .sending => s.reason = .none ∧ s.txp = false ∧ s.idx.toNat ≤ 15 ∧ s.mism = false
  | .verifyingEcho => s.reason = .none ∧ s.idx.toNat ≤ 16 ∧ (s.txp = false → s.idx.toNat ≤ 15) ∧
      (s.txp = true → s.mism = false → s.idx = 16)
  | .awaitingDone => s.reason = .none ∧ s.txp = false ∧ s.idx = 16 ∧ s.mism = false
  | .success => s.reason = .none ∧ s.txp = false ∧ s.idx.toNat ≤ 16
  | .failed => s.reason ≠ .none ∧ s.txp = false ∧ s.idx.toNat ≤ 16

/-- What the invariant says of the latched block and the line reader in every protocol state (R28, R33, R34). -/
structure State.SpacesWf (s : State) : Prop where
  blkWf : s.blk.wf Config.blockBytes
  blkReserved : ∀ k, 6 ≤ k → s.blk.read k = 0
  lrWf : s.lr.Wf s.cfg.ws

section
variable {s t : State} {h : HsState}

theorem State.Row.idx_le (hr : s.Row h) : s.idx.toNat ≤ 16 := by
  cases h with
  | idle => obtain ⟨_, _, _, hidx, _⟩ := hr; simp [hidx]
  | awaitingReady => obtain ⟨_, _, hidx, _⟩ := hr; simp [hidx]
  | sending => obtain ⟨_, _, hidx, _⟩ := hr; omega
  | verifyingEcho => obtain ⟨_, hidx, _⟩ := hr; exact hidx
  | awaitingDone => obtain ⟨_, _, hidx, _⟩ := hr; simp [hidx]
  | success | failed => obtain ⟨_, _, hidx⟩ := hr; exact hidx

theorem State.Row.reason_iff (hr : s.Row h) : s.reason ≠ .none ↔ h = .failed := by
  cases h <;> simp_all [State.Row]

theorem State.Row.txp_eq_false (hr : s.Row h) (hne : h ≠ .verifyingEcho) : s.txp = false := by
  cases h <;> simp_all [State.Row]

theorem State.Inv.spacesWf (hi : s.Inv) : s.SpacesWf := ⟨hi.blkWf, hi.blkReserved, hi.lrWf⟩

/-- The invariant gives the row of the protocol state. -/
theorem State.Inv.row (hi : s.Inv) : s.Row s.hsState := by
  have htxp (hne : s.hsState ≠ .verifyingEcho) : s.txp = false := Bool.eq_false_iff.mpr fun h => hne (hi.txpEcho h)
  have hreason (hne : s.hsState ≠ .failed) : s.reason = .none := by
    by_contra h; exact hne (hi.reasonIff.mp h)
  cases hs : s.hsState with
  | idle => exact ⟨hreason (by simp [hs]), htxp (by simp [hs]), hi.idleCleared hs⟩
  | awaitingReady => exact ⟨hreason (by simp [hs]), htxp (by simp [hs]), hi.readyFresh hs⟩
  | sending => exact ⟨hreason (by simp [hs]), htxp (by simp [hs]), hi.sendingIdx hs, hi.sendingMism hs⟩
  | verifyingEcho =>
    exact ⟨hreason (by simp [hs]), hi.idxLe, fun ht => hi.echoIdx ⟨hs, ht⟩, fun ht hm => hi.proceedIdx ⟨hs, ht, hm⟩⟩
  | awaitingDone => exact ⟨hreason (by simp [hs]), htxp (by simp [hs]), hi.doneFresh hs⟩
  | success => exact ⟨hreason (by simp [hs]), htxp (by simp [hs]), hi.idxLe⟩
  | failed => exact ⟨hi.reasonIff.mpr hs, htxp (by simp [hs]), hi.idxLe⟩

/-- The row and the byte spaces are all that the invariant asks. -/
theorem State.Inv.of_row (hw : s.SpacesWf) (hr : s.Row s.hsState) : s.Inv where
  blkWf := hw.blkWf
  blkReserved := hw.blkReserved
  lrWf := hw.lrWf
  reasonIff := hr.reason_iff
  idxLe := hr.idx_le
  txpEcho := fun ht => by_contra fun hne => absurd (hr.txp_eq_false hne) (by simp [ht])
  sendingIdx := fun hs => by
    obtain ⟨_, _, hidx, _⟩ : s.Row .sending := hs ▸ hr
    exact hidx
  echoIdx := fun ⟨hs, ht⟩ => by
    obtain ⟨_, _, hidx, _⟩ : s.Row .verifyingEcho := hs ▸ hr
    exact hidx ht
  proceedIdx := fun ⟨hs, ht, hm⟩ => by
    obtain ⟨_, _, _, hidx⟩ : s.Row .verifyingEcho := hs ▸ hr
    exact hidx ht hm
  idleCleared := fun hs => by
    obtain ⟨_, _, hcleared⟩ : s.Row .idle := hs ▸ hr
    exact hcleared
  readyFresh := fun hs => by
    obtain ⟨_, _, hfresh⟩ : s.Row .awaitingReady := hs ▸ hr
    exact hfresh
  sendingMism := fun hs => by
    obtain ⟨_, _, _, hmism⟩ : s.Row .sending := hs ▸ hr
    exact hmism
  doneFresh := fun hs => by
    obtain ⟨_, _, hfresh⟩ : s.Row .awaitingDone := hs ▸ hr
    exact hfresh

/-- The field registers, the streams, the pending inputs and the answer are no part of a row. -/
theorem State.Row.of_other (hr : s.Row h) (G : Fields) (rx tx : List Byte) (ps : List Input) (o : Output) :
    ({ s with F := G, rxStream := rx, txStream := tx, pending := ps, out := o } : State).Row h := by
  cases h <;> exact hr

/-- Nor of the invariant. -/
theorem State.Inv.of_other (hi : s.Inv) (G : Fields) (rx tx : List Byte) (ps : List Input) (o : Output) :
    ({ s with F := G, rxStream := rx, txStream := tx, pending := ps, out := o } : State).Inv :=
  .of_row ⟨hi.blkWf, hi.blkReserved, hi.lrWf⟩ (hi.row.of_other _ _ _ _ _)

theorem State.Inv.answer (hi : s.Inv) (o : Output) : (s.answer o).Inv := hi.of_other _ _ _ _ _

/-- What the fetch takes is no part of the invariant. -/
theorem State.FetchedFrom.inv (hf : s.FetchedFrom t) (hi : s.Inv) : t.Inv := by
  have ht : t = { s with rxStream := t.rxStream, pending := t.pending, out := t.out } := by
    obtain ⟨⟩ := hf
    cases s; cases t
    simp_all
  rw [ht]
  exact hi.of_other _ _ _ _ _

end

/-! ### The commands and reset -/

/-- The latched snapshot of the live block has zero bytes from byte 6 on (R28, R130). -/
theorem read_encodeBytes_reserved (sh : SidShift) (F : Fields) {k : Nat} (hk : 6 ≤ k) :
    (Memory.ofBytes 0 (encodeBytes sh F)).read k = 0 := by
  have hb : encodeByte sh F k = 0 := by
    obtain ⟨j, rfl⟩ : ∃ j, k = j + 6 := ⟨k - 6, by omega⟩
    rfl
  rw [Memory.read_ofBytes, if_pos (Nat.zero_le k), encodeBytes, List.getD_eq_getElem?_getD]
  by_cases h : k < Config.blockBytes
  · simp [h, hb]
  · simp [h]

theorem startSession_inv (s : State) : s.startSession.Inv := by
  have hwf : s.startSession.SpacesWf := by
    refine ⟨?_, ?_, ?_⟩
    · have h := Memory.ofBytes_wf 0 (encodeBytes s.cfg.sidShift s.F)
      simpa [encodeBytes] using h
    · intro k hk
      simpa using read_encodeBytes_reserved s.cfg.sidShift s.F hk
    · simpa using LineReader.reset_wf s.cfg.ws
  exact .of_row hwf (by simp [State.Row])

/-- An idle device with every session element cleared meets the invariant (R192). -/
theorem inv_of_cleared {s : State} (hs : s.hsState = .idle) (hr : s.Row .idle) : s.Inv := by
  have ⟨_, _, hblk, _, _, _, hlr⟩ := hr
  refine .of_row ⟨?_, ?_, ?_⟩ (hs ▸ hr)
  · rw [hblk]; exact Memory.wf_nil _
  · intro k _; rw [hblk]; rfl
  · rw [hlr]; exact LineReader.reset_wf _

theorem clearSession_inv (s : State) : s.clearSession.Inv := inv_of_cleared rfl ⟨rfl, rfl, rfl, rfl, rfl, rfl, rfl⟩

theorem resetDevice_inv (s : State) : s.resetDevice.Inv := inv_of_cleared rfl ⟨rfl, rfl, rfl, rfl, rfl, rfl, rfl⟩

/-! ### The controller's moves -/

section
variable {e : Event} {s t : State}

/-- A move rewrites the line reader by LINEBYTE or its reset, or not at all. -/
theorem State.Moves.lr_cases (h : s.Moves e t) :
    t.lr = s.lr ∨ (∃ b, t.lr = s.lr.lineByte s.cfg.ws b) ∨ t.lr = LineReader.reset := by
  have hready (u : State) : u.judgeReady.lr = u.lr := by unfold State.judgeReady; split <;> rfl
  have hdone (u : State) : u.judgeDone.lr = u.lr := by unfold State.judgeDone; split <;> rfl
  cases h with
  | readLine _ _ => exact .inr (.inl ⟨_, rfl⟩)
  | sendProceed _ => exact .inr (.inr rfl)
  | judgeReady _ => exact .inl (hready s)
  | readyEnd _ => exact .inl (hready (s.setRxEnded true))
  | judgeDone _ => exact .inl (hdone s)
  | doneEnd _ => exact .inl (hdone (s.setRxEnded true))
  | echoByte _ _ => rw [State.echoByte, compareEcho_eq]; exact .inl rfl
  | echoLast _ _ => rw [State.echoLast, compareEcho_eq]; exact .inl rfl
  | sendByte _ _ | sendLast _ _ | echoEnd _ | sendAbort _ => exact .inl rfl

theorem State.Moves.spacesWf (h : s.Moves e t) (hw : s.SpacesWf) : t.SpacesWf := by
  obtain ⟨hwf, hres, hlr⟩ := hw
  obtain ⟨hcfg, -, hblk, -⟩ := h.sameSetup
  refine ⟨hblk ▸ hwf, hblk ▸ hres, ?_⟩
  rw [hcfg]
  rcases h.lr_cases with hl | ⟨b, hl⟩ | hl <;> rw [hl]
  · exact hlr
  · exact LineReader.lineByte_wf hlr b
  · exact LineReader.reset_wf _

/-- The verdict on a ready line leads to the row of Sending or of Failed (R215, R216). -/
theorem judgeReady_row (hreason : s.reason = .none) (htxp : s.txp = false) (hidx : s.idx = 0) (hmism : s.mism = false) :
    s.judgeReady.Row s.judgeReady.hsState := by
  cases hl : s.isReadyLine with
  | true => rw [judgeReady_of_match hl]; exact ⟨hreason, htxp, by simp [State.readyMatch], hmism⟩
  | false => rw [judgeReady_of_other hl]; exact ⟨nofun, htxp, by simp [State.readyOther, hidx]⟩

/-- The verdict on a done line leads to the row of Success or of Failed (R226, R227). -/
theorem judgeDone_row (hreason : s.reason = .none) (htxp : s.txp = false) (hidx : s.idx.toNat ≤ 16) :
    s.judgeDone.Row s.judgeDone.hsState := by
  cases hl : s.isDoneLine with
  | true => rw [judgeDone_of_match hl]; exact ⟨hreason, htxp, hidx⟩
  | false => rw [judgeDone_of_other hl]; exact ⟨nofun, htxp, hidx⟩

/-- THE STEP LEMMA: every move leads from the row of its state to the row of the state it enters. -/
theorem State.Moves.row (h : s.Moves e t) (hr : s.Row s.hsState) : t.Row t.hsState := by
  cases h with
  | readLine hs _ =>
    rcases hs with hs | hs
    · have hrow : s.Row .awaitingReady := hs ▸ hr
      rw [State.readLineByte_hsState, hs]; exact hrow
    · have hrow : s.Row .awaitingDone := hs ▸ hr
      rw [State.readLineByte_hsState, hs]; exact hrow
  | judgeReady hs =>
    obtain ⟨hreason, htxp, hidx, hmism, _⟩ : s.Row .awaitingReady := hs ▸ hr
    exact judgeReady_row hreason htxp hidx hmism
  | readyEnd hs =>
    obtain ⟨hreason, htxp, hidx, hmism, _⟩ : s.Row .awaitingReady := hs ▸ hr
    exact judgeReady_row (s := s.setRxEnded true) hreason htxp hidx hmism
  | sendByte hs hi =>
    obtain ⟨hreason, htxp, _, hmism⟩ : s.Row .sending := hs ▸ hr
    have hidx : (s.idx + 1).toNat ≤ 15 := by bv_omega
    have ht : s.sendByte.hsState = .sending := hs
    rw [ht]; exact ⟨hreason, htxp, hidx, hmism⟩
  | sendLast hs _ =>
    obtain ⟨hreason, _, _, _⟩ : s.Row .sending := hs ▸ hr
    exact ⟨hreason, Nat.zero_le _, fun _ => Nat.zero_le _, nofun⟩
  | @echoByte b hs hi =>
    obtain ⟨hreason, _, _, _⟩ : s.Row .verifyingEcho := hs.1 ▸ hr
    have hidx : (s.idx + 1).toNat ≤ 15 := by bv_omega
    have ht : (s.echoByte b).hsState = .verifyingEcho := by rw [State.echoByte, compareEcho_eq]; exact hs.1
    rw [ht, State.echoByte, compareEcho_eq]
    exact ⟨hreason, Nat.le_succ_of_le hidx, fun _ => hidx, fun h => absurd (hs.2.symm.trans h) nofun⟩
  | @echoLast b hs _ =>
    obtain ⟨hreason, _, _, _⟩ : s.Row .verifyingEcho := hs.1 ▸ hr
    have ht : (s.echoLast b).hsState = .verifyingEcho := by rw [State.echoLast, compareEcho_eq]; exact hs.1
    rw [ht, State.echoLast, compareEcho_eq]
    exact ⟨hreason, le_refl 16, nofun, fun _ _ => rfl⟩
  | echoEnd hs =>
    obtain ⟨hreason, hidx, _, _⟩ : s.Row .verifyingEcho := hs.1 ▸ hr
    have ht : s.echoEnd.hsState = .verifyingEcho := hs.1
    rw [ht]; exact ⟨hreason, hidx, nofun, nofun⟩
  | sendProceed hs =>
    obtain ⟨hreason, _, _, hidx⟩ : s.Row .verifyingEcho := hs.1 ▸ hr
    exact ⟨hreason, rfl, hidx hs.2.1 hs.2.2, hs.2.2⟩
  | sendAbort hs =>
    obtain ⟨_, hidx, _, _⟩ : s.Row .verifyingEcho := hs.1 ▸ hr
    exact ⟨nofun, rfl, hidx⟩
  | judgeDone hs =>
    obtain ⟨hreason, htxp, hidx, _⟩ : s.Row .awaitingDone := hs ▸ hr
    exact judgeDone_row hreason htxp (by simp [hidx])
  | doneEnd hs =>
    obtain ⟨hreason, htxp, hidx, _⟩ : s.Row .awaitingDone := hs ▸ hr
    exact judgeDone_row (s := s.setRxEnded true) hreason htxp (by simp [hidx])

theorem State.Moves.inv (h : s.Moves e t) (hi : s.Inv) : t.Inv := .of_row (h.spacesWf hi.spacesWf) (h.row hi.row)

end

end Sys2Proof.Machine
end

section
/-! PROOFS. That every step on a device input keeps the invariant, and that the reset state meets it. -/

namespace Sys2Proof.Machine

open Sys2Proof

/-! ### Every operation but the stand-alone FAIL -/

/-- LINE_RESET by itself keeps the invariant. -/
theorem lineReset_keeps_inv {s : State} (hi : s.Inv) : s.lineReset.Inv := by
  refine .of_row ⟨hi.blkWf, hi.blkReserved, LineReader.reset_wf _⟩ ?_
  have hr := hi.row
  rw [State.lineReset_hsState]
  cases hs : s.hsState <;> rw [hs] at hr
  case idle =>
    obtain ⟨hreason, htxp, hblk, hidx, hmism, hended, _⟩ := hr
    exact ⟨hreason, htxp, hblk, hidx, hmism, hended, rfl⟩
  all_goals exact hr

/-- Every operation that answers a next state keeps the invariant, but for FAIL asked for by itself, which R256
runs only inside the transitions. -/
theorem exec_keeps_inv {i : Instr} {s t : State} (h : exec i s = .next t) (hf : ∀ r, i ≠ .fail r)
    (hi : s.Inv) : t.Inv := by
  cases execEffect_of_exec h with
  | answers o => exact hi.answer o
  | writesField f v => exact hi.of_other _ _ _ _ _
  | starts _ _ => exact (startSession_inv s).answer _
  | clears _ _ => exact (clearSession_inv s).answer _
  | moves hm => exact (hm.inv hi).answer _
  | delivers hd =>
    exact deliver_induction (fun _ _ _ hp hs => (moves_of_rxTransition hs).inv hp)
      (fun _ _ hp => hp.of_other _ _ _ _ _) hi hd
  | resetsLine => exact (lineReset_keeps_inv hi).answer _
  | fails r _ _ => exact absurd rfl (hf r)
  | resets => exact (resetDevice_inv s).answer _

/-! ### The step on a device input -/

/-- No host transaction is the stand-alone FAIL (R171). -/
theorem decodeHost_ne_fail (xn : HostXn) (r : Reason) : decodeHost xn ≠ .fail r := by
  unfold decodeHost
  split
  · unfold decodeWrite
    split
    case h_13 =>
      unfold decodeCtrl
      split
      · nofun
      · split <;> nofun
    all_goals nofun
  · unfold decodeRead
    split <;> nofun

/-- Every step label of R8 keeps the invariant. -/
theorem runEvent_keeps_inv {e : Event} {s t : State} (he : e.isLabel = true) (h : runEvent e s = .next t) (hi : s.Inv) :
    t.Inv := by
  have channel (hc : e.isChannel = true) : t.Inv := by
    obtain ⟨u, hu, rfl⟩ := moves_of_runEvent hc h
    exact (hu.inv hi).answer _
  cases e with
  | rxByte _ | rxEnd | txAccept => exact channel rfl
  | hostXn xn => exact exec_keeps_inv h (decodeHost_ne_fail xn) hi
  | reset => exact exec_keeps_inv (i := .reset) h nofun hi
  | word _ _ | op _ _ => cases he

/-- What the fetch of a device input leaves: device inputs, and an event only of the six labels. -/
def Fetched.Device : Fetched → Prop
  | .quiet t => t.deviceOnly
  | .event e t => e.isLabel = true ∧ t.deviceOnly

/-- The events of a clock cycle are the device's own (R259). -/
theorem inputs_device (p : Pins) (s : State) : (p.inputs s).all Input.isDevice = true := by
  have hchannel : (p.channelInputs s).all Input.isDevice = true := by
    unfold Pins.channelInputs
    split
    · split
      · rfl
      · split <;> rfl
    · split <;> rfl
  have hhost : p.hostInputs.all Input.isDevice = true := by
    unfold Pins.hostInputs
    cases p.host <;> rfl
  unfold Pins.inputs
  split
  · rfl
  · rw [List.all_append, hchannel, hhost]; rfl

/-- With only device inputs pending, the fetch takes one and leaves only device inputs. -/
theorem fetch_device {s : State} (hd : s.deviceOnly) : (fetch s).Device := by
  cases hp : s.pending with
  | nil => rw [fetch_of_nil hp]; exact hd
  | cons i ps =>
    unfold State.deviceOnly at hd
    rw [hp, List.all_cons, Bool.and_eq_true] at hd
    obtain ⟨hi, hps⟩ := hd
    cases i with
    | hostXn xn => rw [fetch_of_hostXn hp]; exact ⟨rfl, hps⟩
    | reset => rw [fetch_of_reset hp]; exact ⟨rfl, hps⟩
    | sent b => simp only [fetch, hp]; exact hps
    | cycle p =>
      simp only [fetch, hp]
      change (p.inputs s ++ ps).all Input.isDevice = true
      rw [List.all_append, inputs_device, hps]; rfl
    | rxByte =>
      simp only [fetch, hp]
      split
      · exact ⟨rfl, hps⟩
      · exact hps
    | rxEnd =>
      simp only [fetch, hp]
      split
      · exact ⟨rfl, hps⟩
      · exact hps
    | txAccept =>
      simp only [fetch, hp]
      split
      · exact ⟨rfl, hps⟩
      · exact hps
    | word _ _ | op _ _ => cases hi

/-- Settles O54: the fetch is no part of the invariant, and the event it takes is one of the six labels, each of which
is a move of the controller or an operation that keeps the invariant. -/
theorem stepKeepsInvariant : Obligations.StepKeepsInvariant := by
  intro s t hi hd h
  have hdev := fetch_device hd
  rcases step_next_cases h with hf | ⟨e, s', i, hf, hdec, hx⟩
  · rw [hf] at hdev
    exact ⟨((fetch_fetchedFrom s).1 t hf).inv hi, hdev⟩
  · rw [hf] at hdev
    obtain ⟨he, hps⟩ := hdev
    have hi' : s'.Inv := ((fetch_fetchedFrom s).2 e s' hf).inv hi
    refine ⟨runEvent_keeps_inv he ((runEvent_of_decode hdec).trans hx) hi', ?_⟩
    unfold State.deviceOnly
    rw [(exec_cfg_pending hx).2]
    exact hps

/-! ### The reset state -/

/-- The live block of zero field registers is zero, under both readings of `SID_LO_SHIFT`. -/
theorem encodeBlock_zero (sh : SidShift) : encodeBlock sh Fields.zero = 0 := by cases sh <;> decide

/-- Settles O36: the elements are the values that `State.reset` writes; the derived values follow from them. -/
theorem resetStateHasStatedValues : Obligations.ResetStateHasStatedValues := by
  have hfields (i : Field) : State.reset.F.get i = 0 := by cases i <;> rfl
  have hstatus : State.reset.statusWord = 0x100 := by decide
  exact ⟨hfields, rfl, rfl, Memory.read_nil, rfl, rfl, rfl, rfl, Memory.read_nil, rfl, rfl, rfl, rfl,
    rfl, rfl, rfl, rfl, rfl, rfl, rfl, encodeBlock_zero _, by decide, by decide, hstatus⟩

/-- Settles O53: the reset state is idle and cleared, it has no outcome to read, and nothing is pending. -/
theorem resetStateMeetsInvariants : Obligations.ResetStateMeetsInvariants := by
  have hinv : State.reset.Inv := inv_of_cleared rfl ⟨rfl, rfl, rfl, rfl, rfl, rfl, rfl⟩
  have houtcome : State.reset.OutcomeInv := ⟨nofun, nofun, nofun, nofun, nofun⟩
  exact ⟨hinv, houtcome, rfl⟩

end Sys2Proof.Machine
end

section
/-! PROOFS. What the transmit stream takes (R66, R205, R206), and that an ended session keeps its outcome (R76 (d)). -/

namespace Sys2Proof.Machine

open Sys2Proof

variable {e : Event} {s t : State}

/-! ### The transmit stream -/

/-- The acceptance of a byte needs one offered, and appends that byte to the transmit stream (R66, R205, R206). -/
theorem State.Moves.txStream_of_txAccept (h : s.Moves .txAccept t) :
    s.txValid = true ∧ t.txStream = s.txStream ++ [s.txData] := by
  cases h with
  | sendByte hs _ => simp [State.txValid, State.txData, State.sendByte, State.blkAtIdx, hs]
  | sendLast hs hi => simp [State.txValid, State.txData, State.sendLast, hs, hi]
  | sendProceed hs =>
    obtain ⟨hs, ht, hm⟩ := hs
    simp [State.txValid, State.txData, State.sendProceed, hs, ht, hm]
  | sendAbort hs =>
    obtain ⟨hs, ht, hm⟩ := hs
    simp [State.txValid, State.txData, State.sendAbort, hs, ht, hm]

/-- No other event appends to the transmit stream. -/
theorem State.Moves.txStream_of_ne (h : s.Moves e t) (he : e ≠ .txAccept) : t.txStream = s.txStream := by
  cases h with
  | judgeReady _ => exact (judgeReady_sameOutside s).txStream
  | judgeDone _ => exact (judgeDone_sameOutside s).txStream
  | readyEnd _ => exact (judgeReady_sameOutside (s.setRxEnded true)).txStream
  | doneEnd _ => exact (judgeDone_sameOutside (s.setRxEnded true)).txStream
  | echoByte _ _ => rw [State.echoByte, compareEcho_eq]; rfl
  | echoLast _ _ => rw [State.echoLast, compareEcho_eq]; rfl
  | readLine _ _ | echoEnd _ => rfl
  | sendByte _ _ | sendLast _ _ | sendProceed _ | sendAbort _ => exact absurd rfl he

/-- A byte is offered in Sending and while the verdict byte waits (R205). -/
theorem txValid_iff : s.txValid = true ↔ s.hsState = .sending ∨ (s.hsState = .verifyingEcho ∧ s.txp = true) := by
  simp [State.txValid]

/-- In a state of the invariant R234 has a row for the acceptance of the byte offered. -/
theorem State.Inv.moves_txAccept (hi : s.Inv) (hv : s.txValid = true) : ∃ u, s.Moves .txAccept u := by
  rcases txValid_iff.mp hv with hs | ⟨hs, ht⟩
  · have hle : s.idx.toNat ≤ 15 := hi.sendingIdx hs
    by_cases hlt : s.idx < 15
    · exact ⟨_, .sendByte hs hlt⟩
    · exact ⟨_, .sendLast hs (by bv_omega)⟩
  · cases hm : s.mism with
    | false => exact ⟨_, .sendProceed ⟨hs, ht, hm⟩⟩
    | true => exact ⟨_, .sendAbort ⟨hs, ht, hm⟩⟩

/-- Settles O45: of all that an operation can do, only the move of `TxAccept` reaches the transmit stream; and that move
exists in every state of the invariant that offers a byte. -/
theorem onlyTheOfferedByteIsTransmitted : Obligations.OnlyTheOfferedByteIsTransmitted := by
  refine ⟨fun i s t h => ?only, fun s hi hv => ?accepted⟩
  case only =>
    cases execEffect_of_exec h with
    | @moves _ e u hm =>
      by_cases he : e = .txAccept
      · subst he; exact .inr hm.txStream_of_txAccept
      · exact .inl (hm.txStream_of_ne he)
    | delivers hd => exact .inl (deliver_sameOutside hd).txStream
    | starts _ _ => exact .inl (by simp)
    | answers _ | writesField _ _ | clears _ _ | resetsLine | fails _ _ _ | resets => exact .inl rfl
  case accepted =>
    obtain ⟨u, hu⟩ := hi.moves_txAccept hv
    exact ⟨_, runEvent_of_moves hu, hu.txStream_of_txAccept.2⟩

/-! ### The outcome of an ended session -/

/-- Only a busy controller moves (R229, R230). -/
theorem State.Moves.busy (h : s.Moves e t) : s.busy = true := by
  cases h with
  | readLine hs _ => rcases hs with hs | hs <;> simp [State.busy, hs, HsState.busy]
  | judgeReady hs | readyEnd hs | sendByte hs _ | sendLast hs _ | judgeDone hs | doneEnd hs =>
    simp [State.busy, hs, HsState.busy]
  | echoByte hs _ | echoLast hs _ | echoEnd hs | sendProceed hs | sendAbort hs =>
    simp [State.busy, hs.1, HsState.busy]

/-- Only a busy controller reads (R204). -/
theorem rxReady_of_not_busy (h : s.busy = false) : s.rxReady = false := by
  cases hs : s.hsState with
  | idle | sending | success | failed => simp [State.rxReady, hs]
  | awaitingReady | verifyingEcho | awaitingDone => simp [State.busy, hs, HsState.busy] at h

/-- A session has ended in Success and in Failed (R35). -/
theorem done_iff : s.done = true ↔ s.hsState = .success ∨ s.hsState = .failed := by
  cases hs : s.hsState <;> simp [State.done, hs, HsState.done]

/-- Settles O26: a session that has ended is not busy, so the controller does not move, reads nothing of the stream and
cannot fail; what is left are the commands, the resets, and operations that write none of these elements. -/
theorem outcomeIsStableUntilCommand : Obligations.OutcomeIsStableUntilCommand := by
  intro i s t hs h hcommand hreset hline
  have hbusy : s.busy = false := busy_of_done (done_iff.mpr hs)
  cases execEffect_of_exec h with
  | answers _ | writesField _ _ => exact ⟨rfl, rfl, rfl, rfl, rfl, rfl, rfl, rfl, rfl⟩
  | delivers hd =>
    rw [deliver_not_ready (rxReady_of_not_busy hbusy)] at hd
    cases hd
    exact ⟨rfl, rfl, rfl, rfl, rfl, rfl, rfl, rfl, rfl⟩
  | moves hm => exact absurd hm.busy (by simp [hbusy])
  | fails _ hb _ => exact absurd hb (by simp [hbusy])
  | @starts _ v hi _ =>
    obtain ⟨hstart, _, hctrl⟩ := hcommand v
    exact (hi.elim hstart hctrl).elim
  | @clears _ v hi _ =>
    obtain ⟨_, hclear, hctrl⟩ := hcommand v
    exact (hi.elim hclear hctrl).elim
  | resetsLine => exact absurd rfl hline
  | resets => exact absurd rfl hreset

end Sys2Proof.Machine
end

section
/-! PROOFS. The memory the host and the peripheral see: the block that START latches (R73), a field register read after
a write (R76 (a)), and the inputs that the device does not take (R65, R202). -/

namespace Sys2Proof.Machine

open Sys2Proof

/-! ### The latched block -/

/-- The space built from the sixteen bytes of ENCODE(F) reads as the block bytes at every index (R73, R130). -/
theorem read_ofBytes_encodeBytes (sh : SidShift) (F : Fields) (k : Nat) :
    (Memory.ofBytes 0 (encodeBytes sh F)).read k = encodeByte sh F k := by
  by_cases hk : k < Config.blockBytes
  · simp [Memory.read_ofBytes, encodeBytes, List.getD_eq_getElem?_getD, hk]
  · obtain ⟨j, rfl⟩ : ∃ j, k = j + 6 := ⟨k - 6, by simp only [Config.blockBytes] at hk; omega⟩
    exact read_encodeBytes_reserved sh F (Nat.le_add_left 6 j)

/-- START is accepted where the device is not busy (R191). -/
theorem exec_start_of_not_busy {v : Word} {s : State} (h : s.busy = false) :
    exec (.start v) s = .next (s.startSession.answer (.host 0 false)) :=
  congrArg hostWrite (commandStart_of_not_busy h)

/-- Settles O20: START is accepted, and the block it latches is built from the sixteen live bytes, so it reads as they
do. -/
theorem startLatchesLiveBlock : Obligations.StartLatchesLiveBlock := by
  intro v s hs
  have hbusy : s.busy = false := by rcases hs with hs | hs | hs <;> simp [State.busy, hs, HsState.busy]
  exact ⟨_, exec_start_of_not_busy hbusy, (startSession_inv s).blkWf, rfl, read_ofBytes_encodeBytes _ _⟩

/-! ### The field registers through the host port -/

/-- The host read of a field register (R173 to R181). -/
def readOf : Field → Instr
  | .blockId => .rdFBlockId
  | .asdoEnabled => .rdFAsdoEnabled
  | .approachDirection => .rdFApproachDirection
  | .version => .rdFVersion
  | .applicationCode => .rdFApplicationCode
  | .doorEnable => .rdFDoorEnable
  | .stopZoneLength => .rdFStopZoneLength
  | .stationId => .rdFStationId
  | .platformId => .rdFPlatformId

/-- The field of a register number below 9 (R22). -/
def fieldOf (n : Nat) : Field := Field.all.getD n .blockId

/-- Different register numbers are different fields. -/
theorem fieldOf_inj {n m : Nat} (hn : n < 9) (hm : m < 9) : fieldOf m = fieldOf n ↔ m = n := by
  have hnodup : Field.all.Nodup := by decide
  have hn' : n < Field.all.length := hn
  have hm' : m < Field.all.length := hm
  rw [fieldOf, fieldOf, List.getD_eq_getElem _ _ hm', List.getD_eq_getElem _ _ hn', hnodup.getElem_inj_iff]

theorem decodeWrite_field {n : Nat} (hn : n < 9) (v : Word) :
    decodeWrite (BitVec.ofNat 5 n) v = writeOf (fieldOf n) v := by
  interval_cases n <;> rfl

theorem decodeRead_field {n : Nat} (hn : n < 9) (v : Word) :
    decodeRead (BitVec.ofNat 5 n) v = readOf (fieldOf n) := by
  interval_cases n <;> rfl

theorem exec_writeOf (f : Field) (v : Word) (s : State) : exec (writeOf f v) s = hostWrite (s.setField f v) := by
  cases f <;> rfl

theorem exec_readOf (f : Field) (s : State) : exec (readOf f) s = hostRead (s.F.get f) s := by
  cases f <;> rfl

/-- The transaction that writes a field register (R171, R173 to R181). -/
theorem runEvent_writeField {n : Nat} (hn : n < 9) (v : Word) (s : State) :
    runEvent (.hostXn (hostWord true (BitVec.ofNat 5 n) v)) s = hostWrite (s.setField (fieldOf n) v) := by
  rw [runEvent_of_decode rfl, decodeHost_write, decodeWrite_field hn, exec_writeOf]

/-- The transaction that reads a field register (R171, R173 to R181). -/
theorem runEvent_readField {n : Nat} (hn : n < 9) (v : Word) (s : State) :
    runEvent (.hostXn (hostWord false (BitVec.ofNat 5 n) v)) s = hostRead (s.F.get (fieldOf n)) s := by
  rw [runEvent_of_decode rfl, decodeHost_read, decodeRead_field hn, exec_readOf]

/-- A field register after a write of a field register, by their numbers (R21, R76 (a)). -/
theorem get_setField {n m : Nat} (hn : n < 9) (hm : m < 9) (v : Word) (s : State) :
    (s.setField (fieldOf n) v).F.get (fieldOf m) = if m = n then v else s.F.get (fieldOf m) := by
  rw [State.setField_F]
  split
  · next h => rw [h, Fields.get_set_self]
  · next h => exact Fields.get_set_other _ v (mt (fieldOf_inj hn hm).mp h)

/-- Settles O13: the two transactions run the write and the read of their fields, and different numbers are different
fields. -/
theorem fieldWriteIsSeenByLaterReads : Obligations.FieldWriteIsSeenByLaterReads := by
  intro n m v s hn hm
  refine ⟨_, runEvent_writeField hn v s, ?_⟩
  rw [runEvent_readField hm, State.answer_F, get_setField hn hm]
  rfl

/-! ### Inputs that are not taken -/

section
variable {s : State} {ps : List Input}

/-- An offer passes while the controller does not read, and where no byte stands in the stream (R65, R202). -/
theorem fetch_of_rxByte_not_taken (h : s.pending = .rxByte :: ps) (hr : s.rxReady = false ∨ s.rxStream = []) :
    fetch s = .quiet ((s.setPending ps).answer .silent) := by
  rcases hr with hr | hb
  · simp [fetch, h, hr]
  · cases hr : s.rxReady <;> simp [fetch, h, hr, hb]

theorem fetch_of_rxEnd_not_taken (h : s.pending = .rxEnd :: ps) (hr : s.rxReady = false) :
    fetch s = .quiet ((s.setPending ps).answer .silent) := by simp [fetch, h, hr]

theorem fetch_of_txAccept_not_taken (h : s.pending = .txAccept :: ps) (ht : s.txValid = false) :
    fetch s = .quiet ((s.setPending ps).answer .silent) := by simp [fetch, h, ht]

/-- What the peripheral sends joins the end of the receive stream (R65). -/
theorem fetch_of_sent {b : Byte} (h : s.pending = .sent b :: ps) :
    fetch s = .quiet (((s.setPending ps).setRxStream (s.rxStream ++ [b])).answer .silent) := by simp [fetch, h]

end

/-- Settles O52: each of these inputs is fetched as no event, so the step only takes it. -/
theorem inputsNotTakenLeaveTheDeviceAlone : Obligations.InputsNotTakenLeaveTheDeviceAlone := by
  intro s ps
  refine ⟨fun h hr => ?rxByte, fun h hr => ?rxEnd, fun h ht => ?txAccept, fun b h => ?sent⟩
  case rxByte => exact step_of_quiet (fetch_of_rxByte_not_taken h hr)
  case rxEnd => exact step_of_quiet (fetch_of_rxEnd_not_taken h hr)
  case txAccept => exact step_of_quiet (fetch_of_txAccept_not_taken h ht)
  case sent => exact step_of_quiet (fetch_of_sent h)

end Sys2Proof.Machine
end

section
/-! PROOFS. The decoder and the encoder agree: every row read back from its word (R112, R171, R234). -/

namespace Sys2Proof

/-! ### The encoder's words, read back -/

/-- An operation without operand is read from zero data bits. -/
theorem decodePlain_zero (i : Instr) : decodePlain i 0 = .instr i := if_pos rfl

/-- A byte operand is read back from its 128 data bits. -/
theorem decodeByteOperand_setWidth (i : Byte → Instr) (b : Byte) :
    decodeByteOperand i (b.setWidth 128) = .instr (i b) := by
  have hlt : (b.setWidth 128).toNat < 256 := by rw [BitVec.toNat_setWidth]; have := b.isLt; omega
  rw [decodeByteOperand, if_pos hlt]
  simp

/-- Of the bytes, LINEBYTE's row admits all but `NL` (R210). -/
theorem decodeOp_lineByte {b : Byte} (h : b ≠ Config.nl) : decodeOp 95 (b.setWidth 128) = .instr (.lineByte b) := by
  have hne : b.setWidth 128 ≠ Config.nl.setWidth 128 := fun he => h (by simpa using congrArg (BitVec.setWidth 8) he)
  exact (if_neg hne).trans (decodeByteOperand_setWidth _ b)

/-- A CTRL value is read back from its 128 data bits (R107). -/
theorem decodeOp_ctrl (v : Word) : decodeOp 99 (v.setWidth 128) = .instr (.ctrl v) := by
  have hlt : (v.setWidth 128).toNat < 2 ^ 64 := by rw [BitVec.toNat_setWidth]; have := v.isLt; omega
  exact (if_pos hlt).trans (by simp)

/-- A host write, at any control point, is the write of its register (R170, R171). -/
theorem decode_hostWrite (c : ControlPoint) (a : BitVec 5) (v : Word) :
    decode c (.hostXn (hostWord true a v)) = .instr (decodeWrite a v) := congrArg _ (decodeHost_write a v)

/-- A host read, at any control point, is the read of its register (R170, R171). -/
theorem decode_hostRead (c : ControlPoint) (a : BitVec 5) (v : Word) :
    decode c (.hostXn (hostWord false a v)) = .instr (decodeRead a v) := congrArg _ (decodeHost_read a v)

/-- Any access to register 9 is the unmapped one (R190). -/
theorem decode_unmapped9 (c : ControlPoint) (w : Bool) (v : Word) :
    decode c (.hostXn (hostWord w 9 v)) = .instr (.unmapped9 w v) := by
  cases w with
  | true => exact decode_hostWrite c 9 v
  | false => exact decode_hostRead c 9 v

/-- Any access to register `24 + low` is the unmapped one (R190). -/
theorem decode_unmapped24to31 (c : ControlPoint) (w : Bool) (low : BitVec 3) (v : Word) :
    decode c (.hostXn (hostWord w (0b11#2 ++ low) v)) = .instr (.unmapped24to31 w low v) := by
  obtain ⟨n, hn, rfl⟩ : ∃ n < 8, low = BitVec.ofNat 3 n := ⟨low.toNat, low.isLt, by simp⟩
  cases w with
  | true => rw [decode_hostWrite]; interval_cases n <;> rfl
  | false => rw [decode_hostRead]; interval_cases n <;> rfl

/-- The command of a value whose bit 0 is set (R184, R193). -/
theorem decodeCtrl_start {v : Word} (h : v.getLsbD 0 = true) : decodeCtrl v = .start v := if_pos h

/-- The command of a value with bits 1:0 = 10b (R184). -/
theorem decodeCtrl_clear {v : Word} (h0 : v.getLsbD 0 = false) (h1 : v.getLsbD 1 = true) :
    decodeCtrl v = .clear v := by rw [decodeCtrl, h0, h1]; rfl

/-- No command in a value with bits 1:0 = 00b (R184). -/
theorem decodeCtrl_noCommand {v : Word} (h0 : v.getLsbD 0 = false) (h1 : v.getLsbD 1 = false) :
    decodeCtrl v = .wrCtrlNoCommand v := by rw [decodeCtrl, h0, h1]; rfl

/-- A host write of CTRL is the command that its value names (R184). -/
theorem decode_ctrlWrite {v : Word} {i : Instr} (c : ControlPoint) (h : decodeCtrl v = i) :
    decode c (.hostXn (hostWord true 12 v)) = .instr i := h ▸ decode_hostWrite c 12 v

/-- Settles O48, row by row: the host operations from the three parts of their word, the transitions at the control
point of their row of R234, every other row by its number. -/
theorem decodeEncodeAgree : Obligations.DecodeEncodeAgree := by
  intro i hwf
  cases i with
  | decode x => rfl
  | ws b => exact decodeByteOperand_setWidth .ws b
  | lineByte b => exact decodeOp_lineByte (bne_iff_ne.mp hwf)
  | fail r =>
    cases r with
    | none => cases hwf
    | writerNotDetected | echoMismatch | writeFailed => rfl
  | ctrl v => exact decodeOp_ctrl v
  | wrFBlockId v | wrFAsdoEnabled v | wrFApproachDirection v | wrFVersion v | wrFApplicationCode v | wrFDoorEnable v
  | wrFStopZoneLength v | wrFStationId v | wrFPlatformId v | wrEncHi v | wrEncLo v | wrStatus v | wrSentHi v
  | wrSentLo v | wrDetail0 v | wrDetail1 v | wrDetail2 v | wrDetail3 v | wrDetail4 v | wrDetail5 v | wrDetail6 v
  | wrDetail7 v => exact decode_hostWrite _ _ v
  | rdFBlockId | rdFAsdoEnabled | rdFApproachDirection | rdFVersion | rdFApplicationCode | rdFDoorEnable
  | rdFStopZoneLength | rdFStationId | rdFPlatformId | rdEncHi | rdEncLo | rdStatus | rdSentHi | rdSentLo | rdDetail0
  | rdDetail1 | rdDetail2 | rdDetail3 | rdDetail4 | rdDetail5 | rdDetail6 | rdDetail7 | rdCtrl =>
    exact decode_hostRead _ _ 0
  | start v => exact decode_ctrlWrite _ (decodeCtrl_start hwf)
  | clear v =>
    obtain ⟨h0, h1⟩ : v.getLsbD 0 = false ∧ v.getLsbD 1 = true := by simpa [Instr.wellFormed] using hwf
    exact decode_ctrlWrite _ (decodeCtrl_clear h0 h1)
  | wrCtrlNoCommand v =>
    obtain ⟨h0, h1⟩ : v.getLsbD 0 = false ∧ v.getLsbD 1 = false := by simpa [Instr.wellFormed] using hwf
    exact decode_ctrlWrite _ (decodeCtrl_noCommand h0 h1)
  | unmapped9 w v => exact decode_unmapped9 _ w v
  | unmapped24to31 w low v => exact decode_unmapped24to31 _ w low v
  | arByte b => exact if_neg (bne_iff_ne.mp hwf)
  | adByte b => exact if_neg (bne_iff_ne.mp hwf)
  | reset => rfl
  | arNlMatch | arNlOther | arEnd | sendByte | sendLast | echoByte _ | echoLast _ | echoEnd | verdictProceed
  | verdictAbort | adNlMatch | adNlOther | adEnd => rfl
  | encode | byte0 | byte1 | byte2 | byte3 | byte4 | byte5 | byte6to15 | p1 | p2 | p3 | p4 | p5 | p6 | p7 | p8 | p9
  | p10 | p11 | p12 | p13 | oorFlags | abort | proceed | litReady | litDone | nl | lineReset | status =>
    exact decodePlain_zero _

end Sys2Proof
end

section
/-! PROOFS. What the decoder reads is well-formed, and a host write loses no bit (R107, R112, R184). -/

namespace Sys2Proof

/-! ### Host transactions -/

/-- The command that a value names admits it: the three rows divide the values by bits 1:0 (R184). -/
theorem decodeCtrl_wellFormed (v : Word) : (decodeCtrl v).wellFormed = true := by
  unfold decodeCtrl
  split
  · next h0 => exact h0
  · next h0 =>
    rw [Bool.not_eq_true] at h0
    split
    · next h1 => rw [Instr.wellFormed, h0, h1]; rfl
    · next h1 => rw [Instr.wellFormed, h0, Bool.eq_false_iff.mpr h1]; rfl

theorem decodeWrite_wellFormed (a : BitVec 5) (v : Word) : (decodeWrite a v).wellFormed = true := by
  unfold decodeWrite
  split
  case h_13 => exact decodeCtrl_wellFormed v
  all_goals rfl

theorem decodeRead_wellFormed (a : BitVec 5) (v : Word) : (decodeRead a v).wellFormed = true := by
  unfold decodeRead
  split <;> rfl

/-- Every one of the 2^70 host words is a well-formed operation (R170, R171). -/
theorem decodeHost_wellFormed (xn : HostXn) : (decodeHost xn).wellFormed = true := by
  unfold decodeHost
  split
  · exact decodeWrite_wellFormed _ _
  · exact decodeRead_wellFormed _ _

/-- Each command is written to CTRL as the value that named it (R107). -/
theorem encode_decodeCtrl (v : Word) : (encode (decodeCtrl v)).2 = .hostXn (hostWord true 12 v) := by
  unfold decodeCtrl
  split
  · rfl
  · split <;> rfl

/-- The operation of a host write is carried by the word of its number and value (R112, R171). -/
theorem encode_decodeWrite (a : BitVec 5) (v : Word) : (encode (decodeWrite a v)).2 = .hostXn (hostWord true a v) := by
  obtain ⟨n, hn, rfl⟩ : ∃ n < 32, a = BitVec.ofNat 5 n := ⟨a.toNat, a.isLt, by simp⟩
  rcases Nat.lt_trichotomy n 12 with hlt | rfl | hgt
  · interval_cases n <;> rfl
  · exact encode_decodeCtrl v
  · interval_cases n <;> rfl

/-- A host write re-encodes to the word it was read from. -/
theorem encode_decodeHost_of_write {xn : HostXn} (h : HostXn.write xn = true) :
    (encode (decodeHost xn)).2 = .hostXn xn := by
  conv_rhs => rw [← hostWord_parts xn, h]
  rw [decodeHost, if_pos h]
  exact encode_decodeWrite _ _

/-! ### Channel events -/

theorem decodeRxByte_wellFormed {c : ControlPoint} {b : Byte} {i : Instr} (h : decodeRxByte c b = .instr i) :
    i.wellFormed = true := by
  unfold decodeRxByte at h
  split at h
  · split at h
    · cases h; cases c.lineOk <;> rfl
    · next hb => cases h; exact bne_iff_ne.mpr hb
  · split at h
    · cases h
    · split at h
      · cases h; rfl
      · split at h <;> cases h; rfl
  · split at h
    · cases h; cases c.lineOk <;> rfl
    · next hb => cases h; exact bne_iff_ne.mpr hb
  all_goals cases h

theorem decodeRxEnd_wellFormed {c : ControlPoint} {i : Instr} (h : decodeRxEnd c = .instr i) :
    i.wellFormed = true := by
  unfold decodeRxEnd at h
  split at h
  · cases h; rfl
  · split at h <;> cases h; rfl
  · cases h; rfl
  all_goals cases h

theorem decodeTxAccept_wellFormed {c : ControlPoint} {i : Instr} (h : decodeTxAccept c = .instr i) :
    i.wellFormed = true := by
  unfold decodeTxAccept at h
  split at h
  · split at h
    · cases h; rfl
    · split at h <;> cases h; rfl
  · split at h <;> cases h; cases c.mism <;> rfl
  all_goals cases h

/-! ### Rows and bare words -/

theorem decodePlain_eq {i j : Instr} {d : Block} (h : decodePlain j d = .instr i) : i = j := by
  unfold decodePlain at h
  split at h <;> cases h; rfl

/-- A byte operand is its 128 data bits. -/
theorem decodeByteOperand_eq {f : Byte → Instr} {i : Instr} {d : Block} (h : decodeByteOperand f d = .instr i) :
    ∃ b : Byte, i = f b ∧ d = b.setWidth 128 := by
  unfold decodeByteOperand at h
  split at h <;> cases h
  next hlt => exact ⟨_, rfl, BitVec.eq_of_toNat_eq (by simp; omega)⟩

theorem decodeOp_wellFormed {row : BitVec 8} {d : Block} {i : Instr} (h : decodeOp row d = .instr i) :
    i.wellFormed = true := by
  unfold decodeOp at h
  split at h
  case h_23 => cases h; rfl
  case h_29 => obtain ⟨b, rfl, _⟩ := decodeByteOperand_eq h; rfl
  case h_30 =>
    split at h
    · cases h
    · next hnl =>
      obtain ⟨b, rfl, rfl⟩ := decodeByteOperand_eq h
      exact bne_iff_ne.mpr fun hb => hnl (by rw [hb])
  case h_32 =>
    split at h
    · cases h; rfl
    · split at h
      · cases h; rfl
      · split at h <;> cases h; rfl
  case h_33 => split at h <;> cases h; rfl
  case h_35 => cases h
  all_goals cases decodePlain_eq h; rfl

theorem tableByteWord_wellFormed (b : Byte) : (tableByteWord b).wellFormed = true := by
  unfold tableByteWord
  split
  · rfl
  split
  · rfl
  split
  · rfl
  split <;> rfl

theorem decodeTableWord_wellFormed {n w : Nat} {i : Instr} (h : decodeTableWord n w = some i) :
    i.wellFormed = true := by
  unfold decodeTableWord at h
  split at h
  · cases h
  split at h
  · cases h; exact tableByteWord_wellFormed _
  split at h
  · split at h <;> cases h; exact decodeHost_wellFormed _
  split at h
  · cases h; split <;> rfl
  split at h
  · cases h; rfl
  split at h
  · split at h <;> cases h; rfl
  split at h
  · split at h <;> cases h; rfl
  · cases h

/-! ### Any event -/

theorem decode_wellFormed {c : ControlPoint} {e : Event} {i : Instr} (h : decode c e = .instr i) :
    i.wellFormed = true := by
  cases e with
  | hostXn xn => cases h; exact decodeHost_wellFormed xn
  | rxByte b => exact decodeRxByte_wellFormed h
  | rxEnd => exact decodeRxEnd_wellFormed h
  | txAccept => exact decodeTxAccept_wellFormed h
  | reset => cases h; rfl
  | word n w =>
    cases hw : decodeTableWord n w with
    | none => rw [decode, hw] at h; cases h
    | some j => rw [decode, hw] at h; cases h; exact decodeTableWord_wellFormed hw
  | op row d => exact decodeOp_wellFormed h

/-- Settles O49: each part of the decoder reads well-formed operations only, and the word of a host write is the three
parts that the encoder puts together again. -/
theorem decodedOperationsAreWellFormed : Obligations.DecodedOperationsAreWellFormed := by
  intro c e i h
  refine ⟨decode_wellFormed h, ?_⟩
  rintro xn rfl hw
  cases h
  exact encode_decodeHost_of_write hw

/-- Settles O50: closed words, each decoded by its write bit, number and value (R112). -/
theorem writtenWordsDecode : Obligations.WrittenWordsDecode := by
  refine ⟨?_, ?_, ?_, ?_, ?_, ?_, ?_, ?_, ?_, ?_, ?_, ?_⟩ <;> decide

end Sys2Proof
end

section
/-! PROOFS. The block and the register words that show bytes: each byte at its place (R70, R91, R109, R110). -/

namespace Sys2Proof.Machine

open Sys2Proof

/-! ### ENCODE as one stream of bits -/

/-- A bit of a packed block: byte 0 is most significant (R70). -/
theorem packBlock_getLsbD (b : Nat → Byte) {i : Nat} (hi : i < 128) :
    (packBlock b).getLsbD i = (b (15 - i / 8)).getLsbD (i % 8) := by
  have hbyte := congrArg (fun x => x.getLsbD (i % 8)) (blockByte_packBlock b (k := 15 - i / 8) (by omega))
  have hplace : 120 - 8 * (15 - i / 8) + i % 8 = i := by omega
  simpa [blockByte, hplace, Nat.mod_lt] using hbyte

/-- Bytes 6 to 15 are reserved (R137). -/
theorem encodeByte_reserved (sh : SidShift) (F : Fields) {k : Nat} (hk : 6 ≤ k) : encodeByte sh F k = 0 := by
  obtain ⟨j, rfl⟩ : ∃ j, k = j + 6 := ⟨k - 6, by omega⟩
  rfl

/-- The fields of the block in order, most significant bit first: byte 5 holds the low bits of `station_id` and
`platform_id`, and bytes 6 to 15 are zero (R91). -/
theorem encodeBlock_eq (sh : SidShift) (F : Fields) : encodeBlock sh F =
    F.blockId.extractLsb' 0 4 ++ F.asdoEnabled.extractLsb' 0 1 ++ F.approachDirection.extractLsb' 0 2
      ++ F.version.extractLsb' 0 2 ++ F.applicationCode.extractLsb' 0 7 ++ F.doorEnable.extractLsb' 0 2
      ++ F.stopZoneLength.extractLsb' 0 10 ++ F.stationId.extractLsb' 3 12 ++ encodeByte sh F 5 ++ 0#80 := by
  change (encodeBlock sh F).cast (by decide : 128 = 4 + 1 + 2 + 2 + 7 + 2 + 10 + 12 + 8 + 80) = _
  apply BitVec.eq_of_getLsbD_eq
  intro i hi
  rw [BitVec.getLsbD_cast, encodeBlock, packBlock_getLsbD _ hi]
  simp only [BitVec.getLsbD_append, BitVec.getLsbD_extractLsb', BitVec.getLsbD_zero]
  rcases Nat.lt_or_ge i 80 with h | h
  · rw [if_pos h, encodeByte_reserved _ _ (by omega), BitVec.ofNat_eq_ofNat, BitVec.getLsbD_zero]
  · rw [if_neg (by omega)]
    rcases Nat.lt_or_ge i 88 with h8 | h8
    · rw [if_pos (by omega), show 15 - i / 8 = 5 by omega, show i % 8 = i - 80 by omega]
    · rw [if_neg (by omega)]
      interval_cases i <;> simp [encodeByte]

/-- With `SID_LO_SHIFT` = 5 the low bits of `station_id` stand above the unused bit of byte 5 (R136). -/
theorem encodeByte_five_of_five (F : Fields) :
    encodeByte .five F 5 = F.stationId.extractLsb' 0 3 ++ 0#1 ++ F.platformId.extractLsb' 0 4 := by
  change (encodeByte .five F 5).cast (by decide : 8 = 3 + 1 + 4) = _
  apply BitVec.eq_of_getLsbD_eq
  intro j hj
  simp only [BitVec.getLsbD_append, BitVec.getLsbD_cast]
  interval_cases j <;> simp [encodeByte, SidShift.amount]

/-- With `SID_LO_SHIFT` = 4 they stand below it (R136, U5). -/
theorem encodeByte_five_of_four (F : Fields) :
    encodeByte .four F 5 = 0#1 ++ F.stationId.extractLsb' 0 3 ++ F.platformId.extractLsb' 0 4 := by
  change (encodeByte .four F 5).cast (by decide : 8 = 1 + 3 + 4) = _
  apply BitVec.eq_of_getLsbD_eq
  intro j hj
  simp only [BitVec.getLsbD_append, BitVec.getLsbD_cast]
  interval_cases j <;> simp [encodeByte, SidShift.amount]

/-- The block as the stream of the nine fields, under either reading of `SID_LO_SHIFT` (R91, R93). -/
theorem encodeBlock_five (F : Fields) : encodeBlock .five F =
    F.blockId.extractLsb' 0 4 ++ F.asdoEnabled.extractLsb' 0 1 ++ F.approachDirection.extractLsb' 0 2
      ++ F.version.extractLsb' 0 2 ++ F.applicationCode.extractLsb' 0 7 ++ F.doorEnable.extractLsb' 0 2
      ++ F.stopZoneLength.extractLsb' 0 10 ++ F.stationId.extractLsb' 0 15 ++ 0#1
      ++ F.platformId.extractLsb' 0 4 ++ 0#80 := by
  have hsid : F.stationId.extractLsb' 0 15 = F.stationId.extractLsb' 3 12 ++ F.stationId.extractLsb' 0 3 :=
    (BitVec.extractLsb'_append_extractLsb'_eq_extractLsb' (len₂ := 12) (len₁ := 3) rfl).symm
  rw [encodeBlock_eq, encodeByte_five_of_five, hsid, BitVec.append_assoc' (x₂ := _ ++ 0#1),
    BitVec.append_assoc' (x₃ := 0#1), BitVec.append_assoc' (x₃ := F.stationId.extractLsb' 0 3)]
  rfl

theorem encodeBlock_four (F : Fields) : encodeBlock .four F =
    F.blockId.extractLsb' 0 4 ++ F.asdoEnabled.extractLsb' 0 1 ++ F.approachDirection.extractLsb' 0 2
      ++ F.version.extractLsb' 0 2 ++ F.applicationCode.extractLsb' 0 7 ++ F.doorEnable.extractLsb' 0 2
      ++ F.stopZoneLength.extractLsb' 0 10 ++ F.stationId.extractLsb' 3 12 ++ 0#1
      ++ F.stationId.extractLsb' 0 3 ++ F.platformId.extractLsb' 0 4 ++ 0#80 := by
  rw [encodeBlock_eq, encodeByte_five_of_four, BitVec.append_assoc' (x₂ := 0#1 ++ _), BitVec.append_assoc' (x₂ := 0#1)]
  rfl

/-- Settles O1: ENCODE answers the live block, which is the stream of the fields under either reading. -/
theorem encodeBlockIsFieldStream : Obligations.EncodeBlockIsFieldStream := by
  intro s
  have hencode : exec .encode s = .next (s.answer (.block (encodeBlock s.cfg.sidShift s.F))) := rfl
  rw [hencode]
  cases s.cfg.sidShift with
  | five => rw [encodeBlock_five]; rfl
  | four => rw [encodeBlock_four]; rfl

end Sys2Proof.Machine
end

section
/-! PROOFS. The read-only register words: the block bytes, the detail and STATUS, each part at its place (R70, R108 to
R110). -/

namespace Sys2Proof.Machine

open Sys2Proof

/-! ### Words of eight bytes -/

/-- A register of zero bytes reads 0. -/
theorem packRegister_of_zero {b : Nat → Byte} (h : ∀ k, k < 8 → b k = 0) : packRegister b = 0 := by
  rw [packRegister, h 0 (by decide), h 1 (by decide), h 2 (by decide), h 3 (by decide), h 4 (by decide),
    h 5 (by decide), h 6 (by decide), h 7 (by decide)]
  rfl

/-- Settles O14: the four reads answer packed registers, whose bytes stand in order; the registers whose bytes are all
reserved read 0. -/
theorem blockRegistersShowBytesInOrder : Obligations.BlockRegistersShowBytesInOrder := by
  intro s
  refine ⟨s.encHi, s.encLo, s.sentHi, s.sentLo, rfl, rfl, rfl, rfl, fun k hk => ?bytes, ?encLo, fun hres => ?sentLo⟩
  case bytes => exact ⟨packRegister_byte _ hk, packRegister_byte _ hk, packRegister_byte _ hk⟩
  case encLo => exact packRegister_of_zero fun k _ => encodeByte_reserved _ _ (by omega)
  case sentLo => exact packRegister_of_zero fun k _ => hres (8 + k) (by omega)

/-- Settles O15: register `k` packs the detail bytes `8k` to `8k + 7`. -/
theorem detailRegistersShowTrimmedLine : Obligations.DetailRegistersShowTrimmedLine := by
  intro s
  exact ⟨s.detailReg, rfl, rfl, rfl, rfl, rfl, rfl, rfl, rfl, fun k j _ hj => packRegister_byte _ hj⟩

/-! ### STATUS -/

/-- A flag of STATUS is set at its place and nowhere else. -/
theorem statusBit_getLsbD (b : Bool) {p i : Nat} (hi : i < 64) : (statusBit b p).getLsbD i = (decide (i = p) && b) := by
  rw [statusBit, BitVec.getLsbD_shiftLeft, BitVec.getLsbD_setWidth, BitVec.getLsbD_ofBool]
  rcases Nat.lt_trichotomy i p with h | rfl | h
  · simp [h, Nat.ne_of_lt h]
  · simp [hi]
  · simp [show i - p ≠ 0 by omega, show i ≠ p by omega]

/-- A field of STATUS stands from its place on. -/
theorem statusField_getLsbD {w : Nat} (x : BitVec w) {p i : Nat} (hi : i < 64) :
    (x.setWidth 64 <<< p).getLsbD i = (decide (p ≤ i) && x.getLsbD (i - p)) := by
  rw [BitVec.getLsbD_shiftLeft, BitVec.getLsbD_setWidth, ← decide_not]
  simp [hi, show i - p < 64 by omega]

/-- The bits of STATUS (R108). -/
theorem statusWord_getLsbD (s : State) {i : Nat} (hi : i < 64) : s.statusWord.getLsbD i =
    (s.hsState.code.getLsbD i || (decide (i = 3) && s.busy) || (decide (i = 4) && s.done)
      || (decide (5 ≤ i) && s.reason.code.getLsbD (i - 5)) || (decide (i = 7) && s.F.oor)
      || (decide (i = 8) && s.F.dirRsv) || (decide (i = 9) && s.lr.lrOvf) || (decide (i = 10) && s.rxEnded)
      || (decide (i = 11) && s.mism) || (decide (16 ≤ i) && s.lr.lrEnd.getLsbD (i - 16))
      || (decide (24 ≤ i) && s.idx.getLsbD (i - 24))) := by
  simp only [State.statusWord, BitVec.getLsbD_or, statusBit_getLsbD _ hi, statusField_getLsbD _ hi,
    BitVec.getLsbD_setWidth, hi, decide_true, Bool.true_and]

/-- The session is busy in the four protocol states on the way (R35). -/
theorem busy_iff {s : State} : s.busy = true ↔
    s.hsState = .awaitingReady ∨ s.hsState = .sending ∨ s.hsState = .verifyingEcho ∨ s.hsState = .awaitingDone := by
  cases hs : s.hsState <;> simp [State.busy, hs, HsState.busy]

/-- Settles O16: both answers are the status word; at the bits of a field every other part of the word is 0. -/
theorem statusWordShowsEveryField : Obligations.StatusWordShowsEveryField := by
  intro s
  refine ⟨s.statusWord, rfl, rfl, (?hsState : _ = s.hsState.code), ?busy, ?done, (?reason : _ = s.reason.code), ?oor,
    ?dirRsv, ?lrOvf, ?rxEnded, ?mism, ?low, ?lrEnd, ?idx, ?high⟩
  case busy =>
    rw [statusWord_getLsbD s (by decide)]
    simp [BitVec.getLsbD_of_ge, ← busy_iff]
  case done =>
    rw [statusWord_getLsbD s (by decide)]
    simp [BitVec.getLsbD_of_ge, ← done_iff]
  case oor | dirRsv | lrOvf | rxEnded | mism =>
    rw [statusWord_getLsbD s (by decide)]
    simp [BitVec.getLsbD_of_ge]
  case hsState | reason | low | lrEnd | idx | high =>
    apply BitVec.eq_of_getLsbD_eq
    intro i hi
    rw [BitVec.getLsbD_extractLsb', statusWord_getLsbD s (by omega)]
    simp (disch := omega) [decide_eq_true, decide_eq_false, BitVec.getLsbD_of_ge]

end Sys2Proof.Machine
end

section
/-! PROOFS. Text arrives (R65, R233): a delivery never stops while `idx` is in range, one byte is one transition, and a
line of text that begins and ends with a byte outside `WS` is stored as it is. -/

namespace Sys2Proof.Machine

open Sys2Proof

variable {s t : State} {b : Byte}

/-! ### A delivery answers a next state -/

/-- While the echo is read, `idx` names a byte of the block (R29, R234). -/
def State.EchoInRange (s : State) : Prop := s.readingEcho → s.idx.toNat ≤ 15

/-- The controller reads in the two line states and while it reads the echo (R204). -/
theorem rxReady_iff : s.rxReady = true ↔ s.hsState = .awaitingReady ∨ s.hsState = .awaitingDone ∨ s.readingEcho := by
  simp [State.rxReady, or_assoc]

/-- Where the controller reads, R234 has a row for every byte. -/
theorem exists_rxTransition (b : Byte) (hr : s.rxReady = true) (hi : s.EchoInRange) :
    ∃ t, s.rxTransition b = some t := by
  rcases rxReady_iff.mp hr with hs | hs | hs
  · exact ⟨_, by rw [State.rxTransition, hs]⟩
  · exact ⟨_, by rw [State.rxTransition, hs]⟩
  · have hle : s.idx.toNat ≤ 15 := hi hs
    by_cases hlt : s.idx < 15
    · exact ⟨_, rxTransition_of_moves (.echoByte hs hlt)⟩
    · exact ⟨_, rxTransition_of_moves (.echoLast hs (by bv_omega))⟩

/-- A state in another protocol state reads no echo. -/
theorem echoInRange_of_ne (h : s.hsState ≠ .verifyingEcho) : s.EchoInRange := fun he => absurd he.1 h

theorem judgeReady_hsState_ne (s : State) : s.judgeReady.hsState ≠ .verifyingEcho := by
  unfold State.judgeReady
  split <;> nofun

theorem judgeDone_hsState_ne (s : State) : s.judgeDone.hsState ≠ .verifyingEcho := by
  unfold State.judgeDone
  split <;> nofun

/-- A byte keeps `idx` in range: it rises by one below 15, and at 15 the echo has been read (R220, R221). -/
theorem echoInRange_of_rxTransition (h : s.rxTransition b = some t) : t.EchoInRange := by
  rcases rxTransition_cases h with ⟨hs, _, rfl⟩ | ⟨_, _, rfl⟩ | ⟨_, _, rfl⟩ | ⟨_, hlt, rfl⟩ | ⟨_, _, rfl⟩
  · exact echoInRange_of_ne (by rcases hs with hs | hs <;> simp [hs])
  · exact echoInRange_of_ne (judgeReady_hsState_ne s)
  · exact echoInRange_of_ne (judgeDone_hsState_ne s)
  · intro _
    change (s.idx + 1).toNat ≤ 15
    bv_omega
  · rintro ⟨_, htxp⟩
    cases htxp

theorem exists_deliver (bs : List Byte) (hi : s.EchoInRange) : ∃ t, State.deliver bs s = .next t := by
  induction bs generalizing s with
  | nil => exact ⟨_, rfl⟩
  | cons b bs ih =>
    cases hr : s.rxReady with
    | false => exact ⟨_, deliver_not_ready hr _⟩
    | true =>
      obtain ⟨u, hu⟩ := exists_rxTransition b hr hi
      rw [deliver_cons hr hu]
      exact ih (echoInRange_of_rxTransition hu)

/-- Bytes that arrive join the stream, and what the stream leaves when its bytes are taken one by one is a next state
(R65, R233). -/
theorem exists_arrive_delivers (bs : List Byte) (hi : s.EchoInRange) :
    ∃ t, s.arrive bs = .next t ∧ s.Delivers (s.rxStream ++ bs) t := by
  obtain ⟨t, ht⟩ := exists_deliver (s.rxStream ++ bs) hi
  exact ⟨t, ht, deliver_delivers ht⟩

/-! ### One byte, and bytes that wait -/

/-- No transition on a byte touches the receive stream. -/
theorem rxStream_of_rxTransition (h : s.rxTransition b = some t) : t.rxStream = s.rxStream := by
  rcases rxTransition_cases h with ⟨_, _, rfl⟩ | ⟨_, _, rfl⟩ | ⟨_, _, rfl⟩ | ⟨_, _, rfl⟩ | ⟨_, _, rfl⟩
  · rfl
  · unfold State.judgeReady; split <;> rfl
  · unfold State.judgeDone; split <;> rfl
  · rw [State.echoByte, compareEcho_eq]; rfl
  · rw [State.echoLast, compareEcho_eq]; rfl

/-- Only a reading controller takes a byte. -/
theorem rxReady_of_rxTransition (h : s.rxTransition b = some t) : s.rxReady = true := by
  rw [rxReady_iff]
  rcases rxTransition_cases h with ⟨hs | hs, _, _⟩ | ⟨hs, _, _⟩ | ⟨hs, _, _⟩ | ⟨hs, _, _⟩ | ⟨hs, _, _⟩
  · exact .inl hs
  · exact .inr (.inl hs)
  · exact .inl hs
  · exact .inr (.inl hs)
  · exact .inr (.inr hs)
  · exact .inr (.inr hs)

/-- With an empty stream, a byte that the controller takes is its transition and nothing else. -/
theorem arrive_one (hstream : s.rxStream = []) (h : s.Moves (.rxByte b) t) :
    s.arrive [b] = .next { t with out := .silent } := by
  have ht : s.rxTransition b = some t := rxTransition_of_moves h
  have hempty : t.setRxStream [] = t := by rw [State.setRxStream, ← hstream, ← rxStream_of_rxTransition ht]
  rw [State.arrive, hstream, List.nil_append, deliver_cons (rxReady_of_rxTransition ht) ht, deliver_nil, hempty]
  rfl

/-- Where the controller reads nothing, what arrives waits at the end of the stream (R65). -/
theorem arrive_not_ready (h : s.rxReady = false) (bs : List Byte) :
    s.arrive bs = .next { s with rxStream := s.rxStream ++ bs, out := .silent } := deliver_not_ready h _

/-- An echo byte below 15: what `ECHO_BYTE` writes (R220). -/
theorem echoByte_eq (b : Byte) (s : State) : s.echoByte b =
    { s with mism := if b = s.blk.read s.idx.toNat then s.mism else true, idx := s.idx + 1 } := by
  unfold State.echoByte State.compareEcho State.blkAtIdx
  split <;> rfl

/-- The echo byte at 15: what `ECHO_LAST` writes (R221). -/
theorem echoLast_eq (b : Byte) {s : State} (hi : s.idx.toNat = 15) : s.echoLast b =
    { s with mism := if b = s.blk.read 15 then s.mism else true, idx := 16, txp := true } := by
  unfold State.echoLast State.compareEcho State.blkAtIdx
  rw [hi]
  split <;> rfl

/-- A raw echo byte that arrives is compared and counted (R220). -/
theorem arrive_echoByte (b : Byte) (hstream : s.rxStream = []) (hs : s.hsState = .verifyingEcho) (ht : s.txp = false)
    (hi : s.idx.toNat < 15) : s.arrive [b] = .next { s with
      mism := if b = s.blk.read s.idx.toNat then s.mism else true, idx := s.idx + 1, out := .silent } := by
  have hlt : s.idx < 15 := hi
  rw [arrive_one hstream (.echoByte ⟨hs, ht⟩ hlt), echoByte_eq]

/-- The sixteenth is followed by the verdict byte (R221). -/
theorem arrive_echoLast (b : Byte) (hstream : s.rxStream = []) (hs : s.hsState = .verifyingEcho) (ht : s.txp = false)
    (hi : s.idx.toNat = 15) : s.arrive [b] = .next { s with
      mism := if b = s.blk.read 15 then s.mism else true, idx := 16, txp := true, out := .silent } := by
  rw [arrive_one hstream (.echoLast ⟨hs, ht⟩ (BitVec.eq_of_toNat_eq hi)), echoLast_eq b hi]

/-- `line_is` says the three conditions of R211. -/
theorem LineReader.lineIs_iff (l : LineReader) (lit : List Byte) : l.lineIs lit = true ↔ l.Holds lit := by
  simp [LineReader.lineIs, LineReader.Holds, and_assoc]

theorem LineReader.lineIs_eq_false_iff (l : LineReader) (lit : List Byte) : l.lineIs lit = false ↔ ¬l.Holds lit := by
  rw [← lineIs_iff, Bool.not_eq_true]

/-- WS is run for a byte of the set, and there it is the arrival of that byte (R105). -/
theorem exec_ws_of_mem (hb : b ∈ s.cfg.ws) : exec (.ws b) s = s.arrive [b] := if_pos hb

/-- Settles O38: NL and WS are the arrival of one byte, which is the controller's move on it where it reads, and waits
where it does not. -/
theorem textBytesArrive : Obligations.TextBytesArrive := by
  intro b s
  have hnl : exec .nl s = s.arrive [Config.nl] := rfl
  rw [hnl]
  refine ⟨fun he hs hl => ?readyMatch, fun he hs hl => ?readyOther, fun he hs hl => ?doneMatch,
    fun he hs hl => ?doneOther, fun he hs ht hi => arrive_echoByte _ he hs ht hi,
    fun he hs ht hi => arrive_echoLast _ he hs ht hi, fun he hs hb hne => ?line,
    fun he hs ht hb hi => ?wsEchoByte, fun he hs ht hb hi => ?wsEchoLast, fun hb => exec_ws_of_mem hb,
    fun hr => arrive_not_ready hr _, fun hr hb => ?waits, fun hi => ⟨exists_arrive_delivers _ hi, fun hb => ?delivers⟩,
    fun hb => if_neg hb⟩
  case readyMatch => exact arrive_one he (moves_readyMatch hs ((LineReader.lineIs_iff _ _).mpr hl))
  case readyOther => exact arrive_one he (moves_readyOther hs ((LineReader.lineIs_eq_false_iff _ _).mpr hl))
  case doneMatch => exact arrive_one he (moves_doneMatch hs ((LineReader.lineIs_iff _ _).mpr hl))
  case doneOther => exact arrive_one he (moves_doneOther hs ((LineReader.lineIs_eq_false_iff _ _).mpr hl))
  case line => rw [exec_ws_of_mem hb]; exact arrive_one he (.readLine hs hne)
  case wsEchoByte => rw [exec_ws_of_mem hb]; exact arrive_echoByte b he hs ht hi
  case wsEchoLast => rw [exec_ws_of_mem hb]; exact arrive_echoLast b he hs ht hi
  case waits => rw [exec_ws_of_mem hb]; exact arrive_not_ready hr _
  case delivers => rw [exec_ws_of_mem hb]; exact exists_arrive_delivers _ hi

end Sys2Proof.Machine
end

section
/-! PROOFS. A line of text arrives: the line reader stores a line that begins and ends with a byte outside `WS` as it
is (R210), and the literals are such lines (R102, R103). -/

namespace Sys2Proof.Machine

open Sys2Proof

variable {ws : List Byte} {l : LineReader} {bs : List Byte} {b : Byte}

/-! ### The line reader fed with a line -/

/-- A space built from bytes takes one more byte at its end. -/
theorem Memory.write_ofBytes_length (bs : List Byte) (b : Byte) :
    (Memory.ofBytes 0 bs).write bs.length b = Memory.ofBytes 0 (bs ++ [b]) := by
  have hbs : (Memory.ofBytes 0 bs).wf (bs.length + 1) :=
    Memory.wf_mono (Memory.ofBytes_wf 0 bs) (by omega)
  have hsnoc : (Memory.ofBytes 0 (bs ++ [b])).wf (bs.length + 1) :=
    Memory.wf_mono (Memory.ofBytes_wf 0 (bs ++ [b])) (by simp)
  refine Memory.ext_of_read (Memory.write_wf hbs (Nat.lt_succ_self _) b) hsnoc fun j => ?_
  rw [Memory.read_write hbs, Memory.read_ofBytes, Memory.read_ofBytes]
  rcases Nat.lt_trichotomy j bs.length with h | rfl | h
  · simp [List.getD_eq_getElem?_getD, List.getElem?_append_left, h, Nat.ne_of_lt h]
  · simp
  · simp [List.getD_eq_getElem?_getD, Nat.le_of_lt h, Nat.ne_of_gt h, List.getElem?_eq_none,
      show bs.length + 1 ≤ j by omega]

/-- The line reader holds exactly the bytes of `bs`, and has seen a byte outside `WS` (R33, R34). -/
structure LineReader.Stores (l : LineReader) (bs : List Byte) : Prop where
  buf : l.lrBuf = Memory.ofBytes 0 bs
  cnt : l.lrCnt = BitVec.ofNat 7 bs.length
  lead : l.lrLead = false
  ovf : l.lrOvf = false

/-- The line reader that holds a line of which nothing is trimmed. -/
def LineReader.holding (line : List Byte) : LineReader :=
  { lrBuf := Memory.ofBytes 0 line, lrCnt := BitVec.ofNat 7 line.length, lrEnd := BitVec.ofNat 7 line.length,
    lrLead := false, lrOvf := false }

theorem LineReader.Stores.eq_holding (h : l.Stores bs) (hend : l.lrEnd = l.lrCnt) : l = LineReader.holding bs := by
  cases l
  obtain ⟨rfl, rfl, rfl, rfl⟩ := h
  cases hend
  rfl

/-- The first byte outside `WS` begins the stored line (R210). -/
theorem LineReader.stores_first (hb : b ∉ ws) : (LineReader.reset.lineByte ws b).Stores [b] := by
  rw [LineReader.lineByte_store (fun h => hb h.2) (by decide)]
  exact ⟨Memory.write_ofBytes_length [] b, rfl, rfl, rfl⟩

/-- While there is room, every further byte is stored; a byte outside `WS` moves `lr_end` past it (R210). -/
theorem LineReader.lineByte_of_stores (h : l.Stores bs) (hlen : bs.length < 64) (b : Byte) :
    (l.lineByte ws b).Stores (bs ++ [b]) ∧ (b ∉ ws → (l.lineByte ws b).lrEnd = (l.lineByte ws b).lrCnt) := by
  obtain ⟨hbuf, hcnt, hlead, hovf⟩ := h
  have hnat : (BitVec.ofNat 7 bs.length).toNat = bs.length := by rw [BitVec.toNat_ofNat]; omega
  have hroom : l.lrCnt < 64 := by rw [hcnt, BitVec.lt_def, hnat]; exact hlen
  rw [LineReader.lineByte_store (by simp [hlead]) hroom]
  refine ⟨⟨?_, ?_, rfl, hovf⟩, fun hb => if_neg hb⟩
  · rw [hbuf, hcnt, hnat, Memory.write_ofBytes_length]
  · rw [hcnt, List.length_append]
    exact (BitVec.ofNat_add _ _).symm

/-- LINEBYTE of each byte of a line in turn. -/
def LineReader.feed (ws line : List Byte) (l : LineReader) : LineReader := line.foldl (fun l b => l.lineByte ws b) l

@[simp] theorem LineReader.feed_nil (ws : List Byte) (l : LineReader) : l.feed ws [] = l := rfl

@[simp] theorem LineReader.feed_cons (ws : List Byte) (b : Byte) (bs : List Byte) (l : LineReader) :
    l.feed ws (b :: bs) = (l.lineByte ws b).feed ws bs := rfl

theorem LineReader.feed_append (ws bs cs : List Byte) (l : LineReader) :
    l.feed ws (bs ++ cs) = (l.feed ws bs).feed ws cs := List.foldl_append

theorem LineReader.feed_of_stores {pre : List Byte} (h : l.Stores pre) (hlen : pre.length + bs.length ≤ 64) :
    (l.feed ws bs).Stores (pre ++ bs) := by
  induction bs generalizing l pre with
  | nil => simpa using h
  | cons b bs ih =>
    rw [List.length_cons] at hlen
    have hstores := (LineReader.lineByte_of_stores (ws := ws) h (by omega) b).1
    simpa using ih hstores (by simp; omega)

/-- THE LINE IS STORED AS IT IS, if it fits and its first and last bytes are outside `WS`: nothing is trimmed (R106). -/
theorem LineReader.feed_reset {first last : Byte} {mid : List Byte} (hfirst : first ∉ ws) (hlast : last ∉ ws)
    (hlen : mid.length + 2 ≤ 64) :
    LineReader.reset.feed ws (first :: mid ++ [last]) = LineReader.holding (first :: mid ++ [last]) := by
  have hmid : (LineReader.reset.feed ws (first :: mid)).Stores (first :: mid) :=
    LineReader.feed_of_stores (LineReader.stores_first hfirst) (by simp; omega)
  obtain ⟨hstores, hend⟩ := LineReader.lineByte_of_stores (ws := ws) hmid (by simp; omega) last
  rw [LineReader.feed_append]
  exact hstores.eq_holding (hend hlast)

/-! ### The arrival of a line -/

section
variable {s : State}

/-- The bytes of a line go to the line reader one after another (R214, R225). -/
theorem deliver_line (hs : s.hsState = .awaitingReady ∨ s.hsState = .awaitingDone) (hline : Config.nl ∉ bs)
    (rest : List Byte) : State.deliver (bs ++ rest) s = State.deliver rest (s.setLr (s.lr.feed s.cfg.ws bs)) := by
  induction bs generalizing s with
  | nil => rfl
  | cons b bs ih =>
    obtain ⟨hne, hbs⟩ : Config.nl ≠ b ∧ Config.nl ∉ bs := by simpa using hline
    have hb : s.rxTransition b = some (s.readLineByte b) := rxTransition_of_moves (.readLine hs hne.symm)
    rw [List.cons_append, deliver_cons (rxReady_of_rxTransition hb) hb, ih (s := s.readLineByte b) hs hbs]
    rfl

/-- A line that arrives with its terminator, the stream being empty, is read and judged (R233). -/
theorem arrive_line {t : State} {r : LineReader} (hstream : s.rxStream = [])
    (hs : s.hsState = .awaitingReady ∨ s.hsState = .awaitingDone) (hline : Config.nl ∉ bs)
    (hr : s.lr.feed s.cfg.ws bs = r) (ht : (s.setLr r).Moves (.rxByte Config.nl) t) :
    s.arrive (bs ++ [Config.nl]) = .next { t with out := .silent } := by
  rw [State.arrive, hstream, List.nil_append, deliver_line hs hline, hr]
  have hone := arrive_one (s := s.setLr r) hstream ht
  rwa [State.arrive, State.setLr_rxStream, hstream] at hone

end

/-! ### The literals -/

section
variable {s : State}

theorem feed_litReady (hok : s.cfg.Ok) (hl : s.lr = LineReader.reset) :
    s.lr.feed s.cfg.ws Config.litReady = LineReader.holding Config.litReady := by
  obtain ⟨_, hW, hY, _⟩ := hok
  rw [hl]
  exact LineReader.feed_reset (mid := Config.litReady.tail.dropLast) hW hY (by decide)

theorem feed_litDone (hok : s.cfg.Ok) (hl : s.lr = LineReader.reset) :
    s.lr.feed s.cfg.ws Config.litDone = LineReader.holding Config.litDone := by
  obtain ⟨_, hW, _, hE⟩ := hok
  rw [hl]
  exact LineReader.feed_reset (mid := Config.litDone.tail.dropLast) hW hE (by decide)

end

/-- Settles O39: each literal is stored as it is, so the state it meets judges it as that literal; where nothing is
read, the bytes wait. -/
theorem literalSignalsArrive : Obligations.LiteralSignalsArrive := by
  intro s
  have hexecReady : exec .litReady s = s.arrive (Config.litReady ++ [Config.nl]) := rfl
  have hexecDone : exec .litDone s = s.arrive (Config.litDone ++ [Config.nl]) := rfl
  have hnlReady : Config.nl ∉ Config.litReady := by decide
  have hnlDone : Config.nl ∉ Config.litDone := by decide
  rw [hexecReady, hexecDone]
  refine ⟨fun hi => ⟨exists_arrive_delivers _ hi, exists_arrive_delivers _ hi⟩, fun hok he hl hs => ?awaitingReady,
    fun hok he hl hs => ?awaitingDone, fun hr => ⟨arrive_not_ready hr _, arrive_not_ready hr _⟩⟩
  case awaitingReady =>
    exact ⟨arrive_line he (.inl hs) hnlReady (feed_litReady hok hl) (moves_readyMatch hs rfl),
      arrive_line he (.inl hs) hnlDone (feed_litDone hok hl) (moves_readyOther hs rfl)⟩
  case awaitingDone =>
    exact ⟨arrive_line he (.inr hs) hnlDone (feed_litDone hok hl) (moves_doneMatch hs rfl),
      arrive_line he (.inr hs) hnlReady (feed_litReady hok hl) (moves_doneOther hs rfl)⟩

end Sys2Proof.Machine
end

section
/-! PROOFS. The packing table (R92): each piece is its field's slice at its place in the byte (R138 to R150), the pieces
of one byte do not overlap (R155), and every block byte is the OR of its pieces. -/

namespace Sys2Proof.Machine

open Sys2Proof

variable {sh : SidShift} {F G : Fields} {p q : Piece} {k j i : Nat}

/-! ### One piece -/

/-- A piece lies within its byte, and its mask is a run of ones over its place there (R92). -/
abbrev Piece.Fits (p : Piece) : Prop :=
  p.offset + p.width ≤ 8 ∧ p.mask = (BitVec.allOnes p.width).setWidth 8 <<< p.offset

/-- Every row of the packing table fits its byte (R92, R155). -/
theorem pieces_fit (sh : SidShift) : ∀ p ∈ pieces sh, p.Fits := by cases sh <;> decide

theorem Piece.Fits.mask_getLsbD (h : p.Fits) (j : Nat) :
    p.mask.getLsbD j = decide (p.offset ≤ j ∧ j < p.offset + p.width) := by
  obtain ⟨hle, hmask⟩ := h
  rw [hmask, BitVec.getLsbD_shiftLeft, BitVec.getLsbD_setWidth, BitVec.getLsbD_allOnes, Bool.eq_iff_iff]
  simp only [Bool.and_eq_true, Bool.not_eq_true', decide_eq_true_eq, decide_eq_false_iff_not]
  omega

/-- A bit of a piece under its mask is the bit of the field that stands there; outside the mask it is 0. -/
theorem Piece.Fits.value_getLsbD (h : p.Fits) (F : Fields) (j : Nat) :
    (p.value F).getLsbD j = (p.mask.getLsbD j && (F.get p.field).getLsbD (p.srcLo + (j - p.offset))) := by
  by_cases hj : p.mask.getLsbD j = true
  · have hplace : p.offset ≤ j ∧ j < p.offset + p.width := by simpa [h.mask_getLsbD] using hj
    have hfits := h.1
    rw [Piece.value, BitVec.getLsbD_and, hj, Bool.and_true, Bool.true_and, BitVec.getLsbD_setWidth]
    split
    · rw [BitVec.getLsbD_shiftLeft, show j - (p.offset - p.srcLo) = p.srcLo + (j - p.offset) by omega]
      simp (disch := omega) [decide_eq_true, decide_eq_false]
    · rw [BitVec.getLsbD_ushiftRight, show p.srcLo - p.offset + j = p.srcLo + (j - p.offset) by omega]
      simp (disch := omega) [decide_eq_true]
  · simp [Piece.value, hj]

/-- The bits of its field that a piece takes (R92). -/
def Piece.slice (p : Piece) (F : Fields) : BitVec p.width := (F.get p.field).extractLsb' p.srcLo p.width

/-- The value of a piece is the slice of its field, shifted to its offset in the byte (R138 to R150). -/
theorem Piece.Fits.value_eq_slice (h : p.Fits) (F : Fields) :
    p.value F = (p.slice F).setWidth 8 <<< p.offset := by
  apply BitVec.eq_of_getLsbD_eq
  intro j hj
  have hfits := h.1
  rw [h.value_getLsbD, h.mask_getLsbD, Piece.slice, BitVec.getLsbD_shiftLeft, BitVec.getLsbD_setWidth,
    BitVec.getLsbD_extractLsb']
  by_cases hplace : p.offset ≤ j ∧ j < p.offset + p.width
  · simp (disch := omega) [hplace, hj, decide_eq_true, decide_eq_false]
  · have houtside : j < p.offset ∨ ¬j - p.offset < p.width := by omega
    rcases houtside with h | h <;> simp [hplace, h]

/-- The raw value shifted to the piece's place, in 64 bits (R92). -/
def Piece.shifted (p : Piece) (F : Fields) : Word :=
  if p.srcLo ≤ p.offset then F.get p.field <<< (p.offset - p.srcLo) else F.get p.field >>> (p.srcLo - p.offset)

/-- The mask may as well be applied to the 64-bit word, as R138 to R150 write it. -/
theorem Piece.value_eq_shifted (p : Piece) (F : Fields) :
    p.value F = (p.shifted F &&& p.mask.setWidth 64).setWidth 8 := by
  rw [BitVec.setWidth_and, BitVec.setWidth_setWidth_of_le _ (by decide), BitVec.setWidth_eq]
  rfl

/-- The mask of P12 in 64 bits (R149). -/
theorem piece12_mask (sh : SidShift) : (piece12 sh).mask.setWidth 64 = (0x07 <<< sh.amount : Word) := by
  cases sh <;> rfl

/-- P6 is not shifted at all (R143). -/
theorem piece6_shifted (F : Fields) : piece6.shifted F = F.applicationCode := BitVec.shiftLeft_zero _

/-- Nor is P13 (R150). -/
theorem piece13_shifted (F : Fields) : piece13.shifted F = F.platformId := BitVec.shiftLeft_zero _

/-- What an operation that evaluates a piece of the table answers: the masked word, which is the slice at its place. -/
theorem exec_piece {instr : Instr} {s : State} {word : Word} {slice : Byte} (p : Piece) (hp : p.Fits)
    (hexec : exec instr s = .next (s.answer (.byte (p.value s.F))))
    (hword : p.shifted s.F &&& p.mask.setWidth 64 = word)
    (hslice : (p.slice s.F).setWidth 8 <<< p.offset = slice) :
    exec instr s = .next { s with out := .byte (word.setWidth 8) } ∧ word.setWidth 8 = slice := by
  subst hword hslice
  rw [← p.value_eq_shifted]
  exact ⟨hexec, hp.value_eq_slice s.F⟩

/-- Settles O3: every piece of the table fits its byte; P6 and P13 are not shifted at all, and the slices of P4, P6, P8,
P10, P11 and P13 stand at bit 0. -/
theorem piecesAreShiftedSlices : Obligations.PiecesAreShiftedSlices := by
  intro s
  refine ⟨?p1, ?p2, ?p3, ?p4, ?p5, ?p6, ?p7, ?p8, ?p9, ?p10, ?p11, ?p12, ?p13⟩
  case p1 => exact exec_piece piece1 (by decide) rfl rfl rfl
  case p2 => exact exec_piece piece2 (by decide) rfl rfl rfl
  case p3 => exact exec_piece piece3 (by decide) rfl rfl rfl
  case p4 => exact exec_piece piece4 (by decide) rfl rfl (BitVec.shiftLeft_zero _)
  case p5 => exact exec_piece piece5 (by decide) rfl rfl rfl
  case p6 => exact exec_piece piece6 (by decide) rfl (congrArg (· &&& _) (piece6_shifted _)) (BitVec.shiftLeft_zero _)
  case p7 => exact exec_piece piece7 (by decide) rfl rfl rfl
  case p8 => exact exec_piece piece8 (by decide) rfl rfl (BitVec.shiftLeft_zero _)
  case p9 => exact exec_piece piece9 (by decide) rfl rfl rfl
  case p10 => exact exec_piece piece10 (by decide) rfl rfl (BitVec.shiftLeft_zero _)
  case p11 => exact exec_piece piece11 (by decide) rfl rfl (BitVec.shiftLeft_zero _)
  case p12 =>
    exact exec_piece (piece12 _) (pieces_fit s.cfg.sidShift _ (by simp [pieces])) rfl
      (congrArg (_ &&& ·) (piece12_mask _)) rfl
  case p13 =>
    exact exec_piece piece13 (by decide) rfl (congrArg (· &&& _) (piece13_shifted _)) (BitVec.shiftLeft_zero _)

/-! ### The pieces of a byte -/

/-- Settles O5: the table is finite, and neither reading of `SID_LO_SHIFT` puts P12 over P13. -/
theorem pieceMasksAreDisjoint : Obligations.PieceMasksAreDisjoint := by
  intro sh
  cases sh <;> decide

/-- A bit of the block belongs to one piece at most (R155). -/
theorem piece_eq_of_mask (hp : p ∈ pieces sh) (hq : q ∈ pieces sh) (hbyte : p.byte = q.byte)
    (hpj : p.mask.getLsbD j = true) (hqj : q.mask.getLsbD j = true) : p = q := by
  by_contra hne
  have hsymm : Std.Symm fun p q : Piece => p.byte = q.byte → p.mask &&& q.mask = 0 :=
    ⟨fun p q h e => by rw [BitVec.and_comm, h e.symm]⟩
  have hdisj : p.byte = q.byte → p.mask &&& q.mask = 0 := (pieceMasksAreDisjoint sh).1.forall hp hq hne
  have := congrArg (fun m => m.getLsbD j) (hdisj hbyte)
  simp [hpj, hqj] at this

/-! Each word of the formulas of R130 is a masked word of the table. -/

theorem encodeByte_zero_eq_or : encodeByte sh F 0 =
    piece1.value F ||| piece2.value F ||| piece3.value F ||| piece4.value F := by
  simp only [Piece.value_eq_shifted, ← BitVec.setWidth_or]
  rfl

theorem encodeByte_one_eq_or : encodeByte sh F 1 = piece5.value F ||| piece6.value F := by
  simp only [Piece.value_eq_shifted, ← BitVec.setWidth_or, piece6_shifted]
  rfl

theorem encodeByte_two_eq_or : encodeByte sh F 2 = piece7.value F ||| piece8.value F := by
  simp only [Piece.value_eq_shifted, ← BitVec.setWidth_or]
  rfl

theorem encodeByte_three_eq_or : encodeByte sh F 3 = piece9.value F ||| piece10.value F := by
  simp only [Piece.value_eq_shifted, ← BitVec.setWidth_or]
  rfl

theorem encodeByte_four_eq_piece : encodeByte sh F 4 = piece11.value F := by
  rw [Piece.value_eq_shifted]
  rfl

theorem encodeByte_five_eq_or : encodeByte sh F 5 = (piece12 sh).value F ||| piece13.value F := by
  simp only [Piece.value_eq_shifted, ← BitVec.setWidth_or, piece12_mask, piece13_shifted]
  rfl

/-- The byte of the formula is the OR of the table's pieces of that byte, at every index: from 6 on there is none. -/
theorem encodeByte_eq_foldl (sh : SidShift) (F : Fields) (k : Nat) :
    encodeByte sh F k = ((pieces sh).filter (fun p => p.byte == k)).foldl (fun a p => a ||| p.value F) 0 := by
  have zero_or (x : Byte) : x = 0 ||| x := BitVec.zero_or.symm
  match k with
  | 0 => rw [encodeByte_zero_eq_or, zero_or (piece1.value F)]; rfl
  | 1 => rw [encodeByte_one_eq_or, zero_or (piece5.value F)]; rfl
  | 2 => rw [encodeByte_two_eq_or, zero_or (piece7.value F)]; rfl
  | 3 => rw [encodeByte_three_eq_or, zero_or (piece9.value F)]; rfl
  | 4 => rw [encodeByte_four_eq_piece]; exact zero_or (piece11.value F)
  | 5 => rw [encodeByte_five_eq_or, zero_or ((piece12 sh).value F)]; rfl
  | _ + 6 => rfl

/-- Settles O4: at every byte, those below 16 among them. -/
theorem bytesAreOrOfPieces : Obligations.BytesAreOrOfPieces := fun sh F k _ => encodeByte_eq_foldl sh F k

/-! ### One bit of the block -/

/-- A bit of an OR of pieces. -/
theorem foldl_or_value_getLsbD (l : List Piece) (F : Fields) (a : Byte) (j : Nat) :
    (l.foldl (fun a p => a ||| p.value F) a).getLsbD j = (a.getLsbD j || l.any fun p => (p.value F).getLsbD j) := by
  induction l generalizing a with
  | nil => simp
  | cons p l ih => rw [List.foldl_cons, ih, BitVec.getLsbD_or, List.any_cons, Bool.or_assoc]

/-- A bit of a block byte is set exactly when some piece of that byte sets it. -/
theorem encodeByte_getLsbD_iff : (encodeByte sh F k).getLsbD j = true ↔
    ∃ p ∈ pieces sh, p.byte = k ∧ (p.value F).getLsbD j = true := by
  rw [encodeByte_eq_foldl, foldl_or_value_getLsbD]
  simp

/-- A bit of the block at the place of a piece is the bit of the field that the piece puts there. -/
theorem encodeByte_getLsbD_of_piece (F : Fields) (hp : p ∈ pieces sh) (hi : i < p.width) :
    (encodeByte sh F p.byte).getLsbD (p.offset + i) = (F.get p.field).getLsbD (p.srcLo + i) := by
  have hmask : p.mask.getLsbD (p.offset + i) = true := by simp [(pieces_fit sh p hp).mask_getLsbD, hi]
  have hvalue : (p.value F).getLsbD (p.offset + i) = (F.get p.field).getLsbD (p.srcLo + i) := by
    rw [(pieces_fit sh p hp).value_getLsbD, hmask, Nat.add_sub_cancel_left, Bool.true_and]
  rw [← hvalue, Bool.eq_iff_iff, encodeByte_getLsbD_iff]
  refine ⟨fun ⟨q, hq, hbyte, hset⟩ => ?_, fun hset => ⟨p, hp, rfl, hset⟩⟩
  have hqmask : q.mask.getLsbD (p.offset + i) = true := by
    rw [(pieces_fit sh q hq).value_getLsbD, Bool.and_eq_true] at hset
    exact hset.1
  obtain rfl := piece_eq_of_mask hp hq hbyte.symm hmask hqmask
  exact hset

/-- Where a block byte of two field contents differs, a piece of that byte differs. -/
theorem exists_piece_of_getLsbD_ne (h : (encodeByte sh F k).getLsbD j ≠ (encodeByte sh G k).getLsbD j) :
    ∃ p ∈ pieces sh, p.byte = k ∧ (p.value F).getLsbD j ≠ (p.value G).getLsbD j := by
  contrapose! h
  rw [Bool.eq_iff_iff, encodeByte_getLsbD_iff, encodeByte_getLsbD_iff]
  constructor
  · rintro ⟨p, hp, hbyte, hset⟩
    exact ⟨p, hp, hbyte, (h p hp hbyte).symm.trans hset⟩
  · rintro ⟨p, hp, hbyte, hset⟩
    exact ⟨p, hp, hbyte, (h p hp hbyte).trans hset⟩

/-- The bytes listed for a field are those of its pieces (R154). -/
theorem byte_mem_fieldBytes (sh : SidShift) : ∀ p ∈ pieces sh, p.byte ∈ fieldBytes p.field := by cases sh <;> decide

/-- Settles O7: a changed bit of the block is a changed bit of a piece; a piece of another field does not change, and no
piece changes outside its mask. -/
theorem fieldChangeIsIsolated : Obligations.FieldChangeIsIsolated := by
  intro sh F i v k j hne
  obtain ⟨p, hp, rfl, hvalue⟩ := exists_piece_of_getLsbD_ne hne
  rw [(pieces_fit sh p hp).value_getLsbD, (pieces_fit sh p hp).value_getLsbD] at hvalue
  have hmask : p.mask.getLsbD j = true := by
    by_contra h
    exact hvalue (by simp [h])
  have hfield : p.field = i := by
    by_contra h
    exact hvalue (by rw [Fields.get_set_other F v h])
  exact ⟨hfield ▸ byte_mem_fieldBytes sh p hp, p, hp, hfield, rfl, hmask⟩

/-! ### The places of the block and of the fields -/

/-- Every place of bytes 0 to 5 but the unused bit of byte 5 is the place of a piece (R92, R114). -/
theorem exists_piece_of_place (sh : SidShift) : ∀ k < 6, ∀ j < 8, ¬(k = 5 ∧ j = sh.unusedBit) →
    ∃ p ∈ pieces sh, p.byte = k ∧ ∃ i < p.width, p.offset + i = j := by cases sh <;> decide

/-- Every bit of a field within its width is taken by a piece (R92). -/
theorem exists_piece_of_source (sh : SidShift) (f : Field) : ∀ n < f.width,
    ∃ p ∈ pieces sh, p.field = f ∧ ∃ i < p.width, p.srcLo + i = n := by cases sh <;> cases f <;> decide

/-- A piece takes bits within the width of its field (R92). -/
theorem piece_source_lt (sh : SidShift) : ∀ p ∈ pieces sh, p.srcLo + p.width ≤ p.field.width := by cases sh <;> decide

/-- Every piece goes to one of the first six bytes (R137). -/
theorem piece_byte_lt (sh : SidShift) : ∀ p ∈ pieces sh, p.byte < 6 := by cases sh <;> decide

/-- No piece reaches the unused bit of byte 5. -/
theorem encodeByte_unusedBit (sh : SidShift) (F : Fields) : (encodeByte sh F 5).getLsbD sh.unusedBit = false := by
  have hmask : ∀ p ∈ pieces sh, p.byte = 5 → p.mask.getLsbD sh.unusedBit = false := by cases sh <;> decide
  rw [Bool.eq_false_iff, ne_eq, encodeByte_getLsbD_iff]
  rintro ⟨p, hp, hbyte, hset⟩
  rw [(pieces_fit sh p hp).value_getLsbD, hmask p hp hbyte] at hset
  cases hset

end Sys2Proof.Machine
end

section
/-! PROOFS. The bytes of the block as slices of the fields, one after the other (R131 to R137), and the advisory
flags (R159). -/

namespace Sys2Proof.Machine

open Sys2Proof

variable {p : Piece}

/-! ### The block bytes -/

/-- A piece joins the bits that stand right above it in its byte. -/
theorem or_value_eq_append {w n : Nat} (x : BitVec w) (hp : p.Fits) (hn : n = p.width + p.offset) (F : Fields) :
    x.setWidth 8 <<< n ||| p.value F = (x ++ p.slice F).setWidth 8 <<< p.offset := by
  rw [BitVec.setWidth_append_eq_shiftLeft_setWidth_or, BitVec.shiftLeft_or_distrib, ← BitVec.shiftLeft_add, ← hn,
    hp.value_eq_slice]

/-- Eight bits that stand at bit 0 are the byte. -/
theorem setWidth_shiftLeft_zero (x : Byte) : x.setWidth 8 <<< 0 = x := by
  rw [BitVec.shiftLeft_zero, BitVec.setWidth_eq]

/-- Byte 0 (R131). -/
theorem encodeByte_zero_eq_slices (sh : SidShift) (F : Fields) :
    encodeByte sh F 0 = F.blockId.extractLsb' 0 4 ++ F.asdoEnabled.extractLsb' 0 1
      ++ F.approachDirection.extractLsb' 0 2 ++ F.version.extractLsb' 1 1 := by
  rw [encodeByte_zero_eq_or, Piece.Fits.value_eq_slice (p := piece1) (by decide),
    or_value_eq_append (p := piece2) (n := piece1.offset) _ (by decide) rfl,
    or_value_eq_append (p := piece3) (n := piece2.offset) _ (by decide) rfl,
    or_value_eq_append (p := piece4) (n := piece3.offset) _ (by decide) rfl]
  exact setWidth_shiftLeft_zero _

/-- Byte 1 (R132). -/
theorem encodeByte_one_eq_slices (sh : SidShift) (F : Fields) :
    encodeByte sh F 1 = F.version.extractLsb' 0 1 ++ F.applicationCode.extractLsb' 0 7 := by
  rw [encodeByte_one_eq_or, Piece.Fits.value_eq_slice (p := piece5) (by decide),
    or_value_eq_append (p := piece6) (n := piece5.offset) _ (by decide) rfl]
  exact setWidth_shiftLeft_zero _

/-- Byte 2 (R133). -/
theorem encodeByte_two_eq_slices (sh : SidShift) (F : Fields) :
    encodeByte sh F 2 = F.doorEnable.extractLsb' 0 2 ++ F.stopZoneLength.extractLsb' 4 6 := by
  rw [encodeByte_two_eq_or, Piece.Fits.value_eq_slice (p := piece7) (by decide),
    or_value_eq_append (p := piece8) (n := piece7.offset) _ (by decide) rfl]
  exact setWidth_shiftLeft_zero _

/-- Byte 3 (R134). -/
theorem encodeByte_three_eq_slices (sh : SidShift) (F : Fields) :
    encodeByte sh F 3 = F.stopZoneLength.extractLsb' 0 4 ++ F.stationId.extractLsb' 11 4 := by
  rw [encodeByte_three_eq_or, Piece.Fits.value_eq_slice (p := piece9) (by decide),
    or_value_eq_append (p := piece10) (n := piece9.offset) _ (by decide) rfl]
  exact setWidth_shiftLeft_zero _

/-- Byte 4 (R135). -/
theorem encodeByte_four_eq_slice (sh : SidShift) (F : Fields) :
    encodeByte sh F 4 = F.stationId.extractLsb' 3 8 := by
  rw [encodeByte_four_eq_piece, Piece.Fits.value_eq_slice (p := piece11) (by decide)]
  exact setWidth_shiftLeft_zero _

/-- What an operation that evaluates a byte of the block answers. -/
theorem exec_byte {instr : Instr} {s : State} {b : Byte} (k : Nat)
    (hexec : exec instr s = .next (s.answer (.byte (s.liveByte k)))) (hb : encodeByte s.cfg.sidShift s.F k = b) :
    exec instr s = .next { s with out := .byte b } := by
  subst hb
  exact hexec

/-- Settles O2: the bytes 0 to 4 are their pieces' slices; byte 5 depends on the reading of `SID_LO_SHIFT`; the rest is
reserved. -/
theorem blockBytesAreSlices : Obligations.BlockBytesAreSlices := by
  intro s
  refine ⟨exec_byte 0 rfl (encodeByte_zero_eq_slices _ _), exec_byte 1 rfl (encodeByte_one_eq_slices _ _),
    exec_byte 2 rfl (encodeByte_two_eq_slices _ _), exec_byte 3 rfl (encodeByte_three_eq_slices _ _),
    exec_byte 4 rfl (encodeByte_four_eq_slice _ _), exec_byte 5 rfl ?byte5, rfl⟩
  cases s.cfg.sidShift with
  | five => exact encodeByte_five_of_five s.F
  | four => exact encodeByte_five_of_four s.F

/-! ### The advisory flags -/

/-- A raw value has a bit above width `w` exactly when it does not fit `w` bits. -/
theorem ushiftRight_bne_zero (v : Word) (w : Nat) : (v >>> w != 0) = decide (2 ^ w ≤ v.toNat) := by
  rw [Bool.eq_iff_iff, bne_iff_ne, decide_eq_true_iff, ne_eq, ← BitVec.toNat_inj, BitVec.toNat_ushiftRight,
    Nat.shiftRight_eq_div_pow]
  simp [Nat.div_eq_zero_iff]

/-- `oor` says that some raw value does not fit the width of its field (R159). -/
theorem oor_eq (F : Fields) : F.oor = Field.all.any fun f => decide (2 ^ f.width ≤ (F.get f).toNat) := by
  simp only [Fields.oor, ushiftRight_bne_zero, Field.all, List.any_cons, List.any_nil, Bool.or_false, Bool.or_assoc]
  rfl

/-- `dir_rsv` says that the low two bits of the approach register are 0 or 3 (R159). -/
theorem dirRsv_eq (F : Fields) :
    F.dirRsv = decide (F.approachDirection.toNat % 4 = 0 ∨ F.approachDirection.toNat % 4 = 3) := by
  rw [Fields.dirRsv, Bool.eq_iff_iff]
  simp [← BitVec.toNat_inj]

/-- Settles O9: the two flags as the model computes them are those of R159. -/
theorem advisoryFlagsAreEvaluated : Obligations.AdvisoryFlagsAreEvaluated := by
  intro s
  have hflags : exec .oorFlags s = .next (s.answer (.flags s.F.oor s.F.dirRsv)) := rfl
  rw [hflags, oor_eq, dirRsv_eq]
  rfl

end Sys2Proof.Machine
end

section
/-! PROOFS. What the block says of the fields: equal blocks are equal masked values (R155, R156), and DECODE is the
inverse of ENCODE on canonical blocks (R160, R161). -/

namespace Sys2Proof.Machine

open Sys2Proof

variable {sh : SidShift} {F G : Fields} {p : Piece} {x : Block} {k i : Nat}

/-! ### Equal blocks -/

/-- Words agree modulo `2 ^ w` exactly when their low `w` bits agree. -/
theorem toNat_mod_two_pow_eq_iff {v w : Word} {n : Nat} :
    v.toNat % 2 ^ n = w.toNat % 2 ^ n ↔ ∀ i < n, v.getLsbD i = w.getLsbD i := by
  constructor
  · intro h i hi
    have := congrArg (·.testBit i) h
    simpa [Nat.testBit_mod_two_pow, hi, BitVec.getLsbD] using this
  · intro h
    apply Nat.eq_of_testBit_eq
    intro i
    rw [Nat.testBit_mod_two_pow, Nat.testBit_mod_two_pow]
    by_cases hi : i < n
    · simpa [hi, BitVec.getLsbD] using h i hi
    · simp [hi]

/-- Blocks are equal exactly when their bytes are. -/
theorem encodeBlock_eq_iff : encodeBlock sh F = encodeBlock sh G ↔ ∀ k, encodeByte sh F k = encodeByte sh G k := by
  refine ⟨fun h k => ?_, fun h => congrArg packBlock (funext h)⟩
  rcases Nat.lt_or_ge k 16 with hk | hk
  · rw [← blockByte_packBlock (encodeByte sh F) hk, ← blockByte_packBlock (encodeByte sh G) hk]
    exact congrArg (blockByte · k) h
  · rw [encodeByte_reserved _ _ (by omega), encodeByte_reserved _ _ (by omega)]

/-- The value of a piece depends on its field within the field's width only (R151). -/
theorem piece_value_congr (hp : p ∈ pieces sh)
    (h : ∀ n < p.field.width, (F.get p.field).getLsbD n = (G.get p.field).getLsbD n) : p.value F = p.value G := by
  have hfit := pieces_fit sh p hp
  have hsrc := piece_source_lt sh p hp
  apply BitVec.eq_of_getLsbD_eq
  intro j _
  rw [hfit.value_getLsbD, hfit.value_getLsbD, hfit.mask_getLsbD]
  by_cases hj : p.offset ≤ j ∧ j < p.offset + p.width
  · rw [h _ (by omega)]
  · simp [hj]

/-- Settles O6: equal blocks have equal bits at every piece's place, and every bit of a masked value has one; and the
pieces see no more of the fields than the masked values. -/
theorem encoderInjectiveOnMaskedValues : Obligations.EncoderInjectiveOnMaskedValues := by
  intro sh F G
  simp only [toNat_mod_two_pow_eq_iff, encodeBlock_eq_iff]
  constructor
  · intro h f n hn
    obtain ⟨p, hp, rfl, i, hi, rfl⟩ := exists_piece_of_source sh f n hn
    rw [← encodeByte_getLsbD_of_piece F hp hi, ← encodeByte_getLsbD_of_piece G hp hi, h]
  · intro h k
    apply BitVec.eq_of_getLsbD_eq
    intro j _
    by_contra hne
    obtain ⟨p, hp, _, hvalue⟩ := exists_piece_of_getLsbD_ne hne
    exact hvalue (by rw [piece_value_congr hp (h p.field)])

/-! ### DECODE, bit by bit -/

/-- What DECODE answers (R160). -/
theorem exec_decode (x : Block) (s : State) : exec (.decode x) s =
    .next (s.answer (.record (decodeRecord s.cfg.sidShift x) (canonical s.cfg.sidShift x))) := rfl

/-- DECODE reads a field at the places of its pieces, row by row of the table (R160). -/
theorem decodeRecord_getLsbD_of_piece (x : Block) (hp : p ∈ pieces sh) (hi : i < p.width) :
    ((decodeRecord sh x).extend.get p.field).getLsbD (p.srcLo + i) = (blockByte x p.byte).getLsbD (p.offset + i) := by
  simp only [pieces, List.mem_cons, List.not_mem_nil, or_false] at hp
  rcases hp with rfl | rfl | rfl | rfl | rfl | rfl | rfl | rfl | rfl | rfl | rfl | rfl | rfl
  all_goals
    simp only [piece1, piece2, piece3, piece4, piece5, piece6, piece7, piece8, piece9, piece10, piece11, piece12,
      piece13, Fields.get, Record.extend, decodeRecord, BitVec.getLsbD_setWidth, BitVec.getLsbD_append,
      BitVec.getLsbD_extractLsb'] at hi ⊢
    simp (disch := omega) only [decide_eq_true, if_pos, if_neg, Bool.true_and, Nat.zero_add,
      Nat.add_sub_cancel_left, Nat.sub_sub, Nat.reduceAdd]

/-- A value whose bits are the low bits of a word is that word cut to its width. -/
theorem eq_setWidth_of_getLsbD {w : Nat} {r : BitVec w} {v : Word} (hw : w ≤ 64)
    (h : ∀ n < w, (r.setWidth 64).getLsbD n = v.getLsbD n) : r = v.setWidth w := by
  apply BitVec.eq_of_getLsbD_eq
  intro n hn
  rw [BitVec.getLsbD_setWidth, ← h n hn, BitVec.getLsbD_setWidth]
  simp (disch := omega) [decide_eq_true]

/-- A record that agrees with the field registers within the width of every field holds the masked values. -/
theorem Record.eq_masked {r : Record}
    (h : ∀ f : Field, ∀ n < f.width, (r.extend.get f).getLsbD n = (F.get f).getLsbD n) : r = F.masked := by
  obtain ⟨⟩ := r
  rw [Fields.masked, Record.mk.injEq]
  exact ⟨eq_setWidth_of_getLsbD (by decide) (h .blockId), eq_setWidth_of_getLsbD (by decide) (h .asdoEnabled),
    eq_setWidth_of_getLsbD (by decide) (h .approachDirection), eq_setWidth_of_getLsbD (by decide) (h .version),
    eq_setWidth_of_getLsbD (by decide) (h .applicationCode), eq_setWidth_of_getLsbD (by decide) (h .doorEnable),
    eq_setWidth_of_getLsbD (by decide) (h .stopZoneLength), eq_setWidth_of_getLsbD (by decide) (h .stationId),
    eq_setWidth_of_getLsbD (by decide) (h .platformId)⟩

/-- A block byte of ENCODE(F) in the packed block (R163). -/
theorem blockByte_encodeBlock (sh : SidShift) (F : Fields) (hk : k < 16) :
    blockByte (encodeBlock sh F) k = encodeByte sh F k := blockByte_packBlock _ hk

/-- DECODE of an encoded block gives the masked values: every bit of a field passes through its piece (R161). -/
theorem decodeRecord_encodeBlock (sh : SidShift) (F : Fields) : decodeRecord sh (encodeBlock sh F) = F.masked := by
  apply Record.eq_masked
  intro f n hn
  obtain ⟨p, hp, rfl, i, hi, rfl⟩ := exists_piece_of_source sh f n hn
  have hbyte := piece_byte_lt sh p hp
  rw [decodeRecord_getLsbD_of_piece _ hp hi, blockByte_encodeBlock _ _ (by omega), encodeByte_getLsbD_of_piece F hp hi]

/-- `canonical`, byte by byte (R160). -/
theorem canonical_iff : canonical sh x = true ↔
    (blockByte x 5).getLsbD sh.unusedBit = false ∧ ∀ k, 6 ≤ k → k < 16 → blockByte x k = 0 := by
  simp only [canonical, Bool.and_eq_true, Bool.not_eq_true', List.all_eq_true, List.mem_range, beq_iff_eq]
  refine and_congr_right fun _ => ⟨fun h k h6 h16 => ?_, fun h k hk => h (6 + k) (by omega) (by omega)⟩
  have := h (k - 6) (by omega)
  rwa [show 6 + (k - 6) = k by omega] at this

/-- The block that ENCODE gives is canonical (R161). -/
theorem canonical_encodeBlock (sh : SidShift) (F : Fields) : canonical sh (encodeBlock sh F) = true := by
  rw [canonical_iff]
  refine ⟨?_, fun k h6 h16 => ?_⟩
  · rw [blockByte_encodeBlock _ _ (by decide), encodeByte_unusedBit]
  · rw [blockByte_encodeBlock _ _ h16, encodeByte_reserved _ _ h6]

/-- ENCODE of a decoded canonical block gives the block: every place is a piece's, unused, or reserved (R161). -/
theorem encodeBlock_decodeRecord (hx : canonical sh x = true) : encodeBlock sh (decodeRecord sh x).extend = x := by
  obtain ⟨hunused, hreserved⟩ := canonical_iff.mp hx
  apply block_ext
  intro k hk
  rw [blockByte_encodeBlock _ _ hk]
  rcases Nat.lt_or_ge k 6 with h6 | h6
  · apply BitVec.eq_of_getLsbD_eq
    intro j hj
    by_cases hplace : k = 5 ∧ j = sh.unusedBit
    · obtain ⟨rfl, rfl⟩ := hplace
      rw [encodeByte_unusedBit, hunused]
    · obtain ⟨p, hp, rfl, i, hi, rfl⟩ := exists_piece_of_place sh k h6 j hj hplace
      rw [encodeByte_getLsbD_of_piece _ hp hi, decodeRecord_getLsbD_of_piece x hp hi]
  · rw [encodeByte_reserved _ _ h6, hreserved k h6 hk]

/-- Settles O8: both ways every bit passes through the piece whose place it has. -/
theorem blockRoundTrip : Obligations.BlockRoundTrip := by
  refine ⟨fun s => ?_, fun sh x hx => encodeBlock_decodeRecord hx⟩
  rw [exec_decode, State.encBlock, decodeRecord_encodeBlock, canonical_encodeBlock]
  rfl

/-! ### DECODE, field by field -/

/-- A slice of a byte of a block is a slice of the block (R70). -/
theorem blockByte_extractLsb' (x : Block) (k : Nat) {lo w : Nat} (h : lo + w ≤ 8) :
    (blockByte x k).extractLsb' lo w = x.extractLsb' (120 - 8 * k + lo) w := by
  apply BitVec.eq_of_getLsbD_eq
  intro i hi
  simp only [blockByte, BitVec.getLsbD_extractLsb', Nat.add_assoc]
  simp (disch := omega) [decide_eq_true]

/-- The reserved bytes are the low 80 bits of the block (R91). -/
theorem reserved_iff : x.extractLsb' 0 80 = 0 ↔ ∀ k, 6 ≤ k → k < 16 → blockByte x k = 0 := by
  constructor
  · intro h k h6 h16
    have hbyte : (x.extractLsb' 0 80).extractLsb' (120 - 8 * k) 8 = blockByte x k :=
      BitVec.extractLsb'_extractLsb'_of_le (by omega)
    rw [← hbyte, h]
    exact BitVec.extractLsb'_zero
  · intro h
    apply BitVec.eq_of_getLsbD_eq
    intro n hn
    have hbit := congrArg (·.getLsbD (n % 8)) (h (15 - n / 8) (by omega) (by omega))
    simp only [blockByte, BitVec.getLsbD_extractLsb', show 120 - 8 * (15 - n / 8) + n % 8 = n by omega] at hbit
    simpa [hn, Nat.mod_lt] using hbit

/-- `canonical` as a function of the bits of the block (R160). -/
theorem canonical_eq (sh : SidShift) (x : Block) :
    canonical sh x = (decide (x.extractLsb' 0 80 = 0) && !x.getLsbD (80 + sh.unusedBit)) := by
  have hunused : (blockByte x 5).getLsbD sh.unusedBit = x.getLsbD (80 + sh.unusedBit) := by
    cases sh <;> simp [blockByte, SidShift.unusedBit]
  rw [Bool.eq_iff_iff, canonical_iff, ← reserved_iff, hunused]
  simp [and_comm]

/-- DECODE's fields as runs of bits of the block, `station_id` left as the parts it is read from. -/
theorem decodeRecord_eq (sh : SidShift) (x : Block) : decodeRecord sh x =
    { blockId := x.extractLsb' 124 4, asdoEnabled := x.extractLsb' 123 1, approachDirection := x.extractLsb' 121 2,
      version := x.extractLsb' 119 2, applicationCode := x.extractLsb' 112 7, doorEnable := x.extractLsb' 110 2,
      stopZoneLength := x.extractLsb' 100 10,
      stationId := x.extractLsb' 88 12 ++ x.extractLsb' (80 + sh.amount) 3,
      platformId := x.extractLsb' 80 4 } := by
  have hsid : (blockByte x 5).extractLsb' sh.amount 3 = x.extractLsb' (80 + sh.amount) 3 :=
    blockByte_extractLsb' x 5 (by cases sh <;> decide)
  have hbyte4 : blockByte x 4 = x.extractLsb' 88 8 := rfl
  have hversion : x.extractLsb' 120 1 ++ x.extractLsb' 119 1 = x.extractLsb' 119 2 :=
    BitVec.extractLsb'_append_extractLsb'_eq_extractLsb' rfl
  have hszl : x.extractLsb' 104 6 ++ x.extractLsb' 100 4 = x.extractLsb' 100 10 :=
    BitVec.extractLsb'_append_extractLsb'_eq_extractLsb' rfl
  have hhigh : x.extractLsb' 96 4 ++ x.extractLsb' 88 8 = x.extractLsb' 88 12 :=
    BitVec.extractLsb'_append_extractLsb'_eq_extractLsb' rfl
  simp (disch := decide) only [decodeRecord, hsid, hbyte4, blockByte_extractLsb', Nat.reduceMul, Nat.reduceSub,
    Nat.reduceAdd, hversion, hszl, hhigh]

/-- Settles O10: under the reading 5 the two parts of `station_id` are one run of bits. -/
theorem decodeReadsFieldsOfBlock : Obligations.DecodeReadsFieldsOfBlock := by
  intro s x
  rw [exec_decode, decodeRecord_eq, canonical_eq]
  cases s.cfg.sidShift with
  | five =>
    have hsid : x.extractLsb' 88 12 ++ x.extractLsb' 85 3 = x.extractLsb' 85 15 :=
      BitVec.extractLsb'_append_extractLsb'_eq_extractLsb' rfl
    rw [← hsid]
    rfl
  | four => rfl

end Sys2Proof.Machine
end

section
/-! PROOFS. The host port (R170 to R194): every transaction completes, BusError is raised for exactly the accesses of
R172, and a write of CTRL runs the command that its bits 1:0 name. -/

namespace Sys2Proof.Machine

open Sys2Proof

/-! ### The condition of BusError -/

/-- An access to an unmapped number, or a write of a read-only register (R172, R190). -/
def BusErrorAt (write : Bool) (n : Nat) : Prop :=
  (n = 9 ∨ 24 ≤ n) ∨ (write = true ∧ (n = 10 ∨ n = 11 ∨ (13 ≤ n ∧ n ≤ 23)))

/-- Of the numbers, only the nine fields and CTRL can be written (R171, R172). -/
theorem busErrorAt_write_iff {n : Nat} : BusErrorAt true n ↔ 9 ≤ n ∧ n ≠ 12 := by
  simp only [BusErrorAt, true_and]
  omega

theorem busErrorAt_read_iff {n : Nat} : BusErrorAt false n ↔ n = 9 ∨ 24 ≤ n := by simp [BusErrorAt]

/-! ### The operation of a transaction, run -/

theorem exec_decodeWrite_of_busErrorAt {a : BitVec 5} (h : BusErrorAt true a.toNat) (v : Word) (s : State) :
    exec (decodeWrite a v) s = busError s := by
  rw [busErrorAt_write_iff] at h
  unfold decodeWrite
  split
  case h_1 | h_2 | h_3 | h_4 | h_5 | h_6 | h_7 | h_8 | h_9 | h_13 => omega
  all_goals rfl

theorem exec_decodeRead_of_busErrorAt {a : BitVec 5} (h : BusErrorAt false a.toNat) (v : Word) (s : State) :
    exec (decodeRead a v) s = busError s := by
  rw [busErrorAt_read_iff] at h
  unfold decodeRead
  split
  case h_10 | h_25 => rfl
  all_goals omega

/-- A write of CTRL, as the command its value names or by its format: the same write (R184). -/
theorem exec_decodeCtrl (v : Word) (s : State) : exec (decodeCtrl v) s = exec (.ctrl v) s := by
  change _ = hostWrite (s.commandCtrl v)
  unfold decodeCtrl State.commandCtrl
  split
  · rfl
  · split <;> rfl

/-- Where a write raises no BusError it completes with err 0: it is the write of a field or of CTRL. -/
theorem exec_decodeWrite_of_not_busErrorAt {a : BitVec 5} (h : ¬BusErrorAt true a.toNat) (v : Word) (s : State) :
    ∃ u, exec (decodeWrite a v) s = hostWrite u := by
  obtain ⟨n, hn, rfl⟩ : ∃ n < 32, a = BitVec.ofNat 5 n := ⟨a.toNat, a.isLt, by simp⟩
  rw [busErrorAt_write_iff, BitVec.toNat_ofNat, Nat.mod_eq_of_lt hn] at h
  have hwritable : n < 9 ∨ n = 12 := by omega
  rcases hwritable with hfield | rfl
  · exact ⟨_, by rw [decodeWrite_field hfield, exec_writeOf]⟩
  · exact ⟨_, exec_decodeCtrl v s⟩

/-- Where a read raises no BusError it only answers the data of its register (R170). -/
theorem exec_decodeRead_of_not_busErrorAt {a : BitVec 5} (h : ¬BusErrorAt false a.toNat) (v : Word) (s : State) :
    ∃ d, exec (decodeRead a v) s = hostRead d s := by
  obtain ⟨n, hn, rfl⟩ : ∃ n < 32, a = BitVec.ofNat 5 n := ⟨a.toNat, a.isLt, by simp⟩
  rw [busErrorAt_read_iff, BitVec.toNat_ofNat, Nat.mod_eq_of_lt hn] at h
  have hmapped : n < 9 ∨ (10 ≤ n ∧ n < 24) := by omega
  rcases hmapped with hfield | ⟨hlow, hhigh⟩
  · exact ⟨_, by rw [decodeRead_field hfield, exec_readOf]⟩
  · interval_cases n <;> exact ⟨_, rfl⟩

/-- EVERYTHING A HOST TRANSACTION CAN DO: BusError where R172 says so, and else a read or a write with err 0. -/
theorem runEvent_hostXn_cases (xn : HostXn) (s : State) :
    (BusErrorAt (HostXn.write xn) (HostXn.addr xn).toNat ∧ runEvent (.hostXn xn) s = busError s) ∨
    (¬BusErrorAt (HostXn.write xn) (HostXn.addr xn).toNat ∧
      ((HostXn.write xn = false ∧ ∃ d, runEvent (.hostXn xn) s = hostRead d s) ∨
        (HostXn.write xn = true ∧ ∃ u, runEvent (.hostXn xn) s = hostWrite u))) := by
  rw [runEvent_of_decode (i := decodeHost xn) rfl, decodeHost]
  cases hw : HostXn.write xn with
  | true =>
    by_cases h : BusErrorAt true (HostXn.addr xn).toNat
    · exact .inl ⟨h, exec_decodeWrite_of_busErrorAt h _ s⟩
    · exact .inr ⟨h, .inr ⟨rfl, exec_decodeWrite_of_not_busErrorAt h _ s⟩⟩
  | false =>
    by_cases h : BusErrorAt false (HostXn.addr xn).toNat
    · exact .inl ⟨h, exec_decodeRead_of_busErrorAt h _ s⟩
    · exact .inr ⟨h, .inl ⟨rfl, exec_decodeRead_of_not_busErrorAt h _ s⟩⟩

/-- Settles O18: the three things a transaction can do, read off one by one. -/
theorem hostTransactionsAlwaysComplete : Obligations.HostTransactionsAlwaysComplete := by
  intro xn s
  rcases runEvent_hostXn_cases xn s with ⟨hbus, hrun⟩ | ⟨hbus, ⟨hw, d, hrun⟩ | ⟨hw, u, hrun⟩⟩
  · exact ⟨_, 0, true, hrun, rfl, fun _ => rfl, fun _ => rfl, iff_of_true rfl hbus, fun _ => ⟨rfl, rfl⟩⟩
  · exact ⟨_, d, false, hrun, rfl, fun _ => rfl, fun h => absurd (hw ▸ h) Bool.false_ne_true,
      iff_of_false Bool.false_ne_true hbus, nofun⟩
  · exact ⟨_, 0, false, hrun, rfl, fun h => absurd (hw ▸ h).symm Bool.false_ne_true, fun _ => rfl,
      iff_of_false Bool.false_ne_true hbus, nofun⟩

/-! ### The accesses of the registers, one by one -/

/-- Settles O11: each write is the one of its field. -/
theorem fieldWritesStoreAllBits : Obligations.FieldWritesStoreAllBits := by
  intro v s
  exact ⟨exec_writeOf .blockId v s, exec_writeOf .asdoEnabled v s, exec_writeOf .approachDirection v s,
    exec_writeOf .version v s, exec_writeOf .applicationCode v s, exec_writeOf .doorEnable v s,
    exec_writeOf .stopZoneLength v s, exec_writeOf .stationId v s, exec_writeOf .platformId v s⟩

/-- The read of the write-only register (R185). -/
theorem exec_rdCtrl (s : State) : exec .rdCtrl s = hostRead 0 s := rfl

/-- Settles O12: each read is the one of its field. -/
theorem fieldAndCtrlReadsChangeNothing : Obligations.FieldAndCtrlReadsChangeNothing := by
  intro s
  exact ⟨exec_readOf .blockId s, exec_readOf .asdoEnabled s, exec_readOf .approachDirection s,
    exec_readOf .version s, exec_readOf .applicationCode s, exec_readOf .doorEnable s,
    exec_readOf .stopZoneLength s, exec_readOf .stationId s, exec_readOf .platformId s, exec_rdCtrl s⟩

theorem exec_unmapped9 (w : Bool) (v : Word) (s : State) : exec (.unmapped9 w v) s = busError s := rfl

theorem exec_unmapped24to31 (w : Bool) (low : BitVec 3) (v : Word) (s : State) :
    exec (.unmapped24to31 w low v) s = busError s := rfl

/-- Settles O17: the read-only registers are those of numbers 10, 11 and 13 to 23. -/
theorem readOnlyWritesAndUnmappedAccessesRaiseBusError :
    Obligations.ReadOnlyWritesAndUnmappedAccessesRaiseBusError := by
  intro v w low s
  have hwrite (a : BitVec 5) (h : 9 ≤ a.toNat ∧ a.toNat ≠ 12) : exec (decodeWrite a v) s = busError s :=
    exec_decodeWrite_of_busErrorAt (busErrorAt_write_iff.mpr h) v s
  exact ⟨hwrite 10 (by decide), hwrite 11 (by decide), hwrite 13 (by decide), hwrite 14 (by decide),
    hwrite 15 (by decide), hwrite 16 (by decide), hwrite 17 (by decide), hwrite 18 (by decide),
    hwrite 19 (by decide), hwrite 20 (by decide), hwrite 21 (by decide), hwrite 22 (by decide),
    hwrite 23 (by decide), exec_unmapped9 w v s, exec_unmapped24to31 w low v s⟩

/-! ### START and CLEAR -/

/-- The three protocol states that are not busy are those in which START is accepted (R35, R191). -/
theorem busy_eq_false_iff {s : State} :
    s.busy = false ↔ s.hsState = .idle ∨ s.hsState = .success ∨ s.hsState = .failed := by
  cases hs : s.hsState <;> simp [State.busy, hs, HsState.busy]

theorem wipeSession_eq (s : State) : s.wipeSession =
    { s with reason := .none, idx := 0, mism := false, txp := false, rxEnded := false, lr := LineReader.reset } := rfl

/-- All that an accepted START writes, in one record (R191). -/
theorem startSession_eq (s : State) : s.startSession = { s with
    blk := Memory.ofBytes 0 (encodeBytes s.cfg.sidShift s.F), hsState := .awaitingReady, reason := .none, idx := 0,
    mism := false, txp := false, rxEnded := false, lr := LineReader.reset } := by
  simp only [State.startSession, wipeSession_eq, State.enter, State.setBlk]

/-- START writes every element that CLEAR writes, and takes its block from elements that CLEAR keeps. -/
theorem startSession_clearSession (s : State) (o : Output) :
    (s.clearSession.answer o).startSession = s.startSession.answer o := by
  rw [startSession_eq, startSession_eq]
  rfl

theorem exec_start_of_busy {v : Word} {s : State} (h : s.busy = true) : exec (.start v) s = hostWrite s :=
  congrArg hostWrite (commandStart_of_busy h)

theorem exec_clear_of_done {v : Word} {s : State} (h : s.done = true) :
    exec (.clear v) s = hostWrite s.clearSession :=
  congrArg hostWrite (commandClear_of_done h)

theorem exec_clear_of_not_done {v : Word} {s : State} (h : s.done = false) : exec (.clear v) s = hostWrite s :=
  congrArg hostWrite (commandClear_of_not_done h)

/-- Settles O19: START is accepted in the three states, and its writes are those of the statement. -/
theorem startBeginsSession : Obligations.StartBeginsSession := by
  intro v s hs
  rw [exec_start_of_not_busy (busy_eq_false_iff.mpr hs), startSession_eq]
  rfl

/-- Settles O21: CLEAR is accepted in the two states, and its writes are those of the statement. -/
theorem clearReturnsToIdle : Obligations.ClearReturnsToIdle := fun _ _ hs => exec_clear_of_done (done_iff.mpr hs)

/-- Settles O22: a busy session has not ended, nor has an idle device, so neither command is accepted. -/
theorem commandsNotAcceptedChangeNothing : Obligations.CommandsNotAcceptedChangeNothing := by
  intro v s
  refine ⟨fun hs => ?busy, fun hs => ?idle⟩
  case busy =>
    have hbusy : s.busy = true := busy_iff.mpr hs
    have hdone : s.done = false := Bool.eq_false_iff.mpr fun hd => by simp [busy_of_done hd] at hbusy
    exact ⟨exec_start_of_busy hbusy, exec_clear_of_not_done hdone⟩
  case idle =>
    have hdone : s.done = false := by simp [State.done, hs, HsState.done]
    exact exec_clear_of_not_done hdone

/-! ### The write of CTRL -/

section
variable {v : Word}

theorem exec_ctrl_of_bit0 (h : v.getLsbD 0 = true) (w : Word) (s : State) :
    exec (.ctrl v) s = exec (.start w) s :=
  congrArg hostWrite (if_pos h)

theorem exec_ctrl_of_bit1 (h0 : v.getLsbD 0 = false) (h1 : v.getLsbD 1 = true) (w : Word) (s : State) :
    exec (.ctrl v) s = exec (.clear w) s :=
  congrArg hostWrite ((if_neg (Bool.eq_false_iff.mp h0)).trans (if_pos h1))

theorem exec_ctrl_of_no_command (h0 : v.getLsbD 0 = false) (h1 : v.getLsbD 1 = false) (s : State) :
    exec (.ctrl v) s = hostWrite s :=
  congrArg hostWrite ((if_neg (Bool.eq_false_iff.mp h0)).trans (if_neg (Bool.eq_false_iff.mp h1)))

end

/-- A write of register 12, through the host port (R171, R184). -/
theorem runEvent_writeCtrl (v : Word) (s : State) :
    runEvent (.hostXn (hostWord true 12 v)) s = exec (.ctrl v) s := by
  rw [runEvent_of_decode (decode_hostWrite _ 12 v)]
  exact exec_decodeCtrl v s

/-- START does the same after an accepted CLEAR as before it (R191 to R193). -/
theorem exec_start_after_clear {s t : State} {v w : Word} (hd : s.done = true) (h : exec (.clear v) s = .next t) :
    exec (.start w) t = exec (.start w) s := by
  rw [exec_clear_of_done hd] at h
  cases hostWrite_next h
  rw [exec_start_of_not_busy rfl, exec_start_of_not_busy (busy_of_done hd), startSession_clearSession]
  rfl

/-- Settles O23: the rows of CTRL by bits 1:0; with both set in a terminal state, START does what it would after
CLEAR. -/
theorem ctrlWriteSelectsCommand : Obligations.CtrlWriteSelectsCommand := by
  intro v w s
  refine ⟨⟨_, rfl, rfl⟩, runEvent_writeCtrl v s, fun h0 => exec_ctrl_of_bit0 h0 w s,
    fun h0 h1 => exec_ctrl_of_bit1 h0 h1 w s, fun h0 h1 => exec_ctrl_of_no_command h0 h1 s, rfl,
    fun h0 _ hs => ?both⟩
  have hdone : s.done = true := done_iff.mpr hs
  have hclear := exec_clear_of_done (v := w) hdone
  exact ⟨_, hclear, (exec_ctrl_of_bit0 h0 w s).trans (exec_start_after_clear hdone hclear).symm⟩

end Sys2Proof.Machine
end

section
/-! PROOFS. What a session has put on the wire (R231): every move sends what it adds to the session's bytes, and only
START, CLEAR and reset leave a session. -/

namespace Sys2Proof.Machine

open Sys2Proof

variable {e : Event} {i : Instr} {s t u : State}

/-! ### The bytes of a session, an equation per protocol state -/

theorem sessionTx_of_idle (h : s.hsState = .idle) : s.sessionTx = [] := by rw [State.sessionTx, h]

theorem sessionTx_of_awaitingReady (h : s.hsState = .awaitingReady) : s.sessionTx = [] := by rw [State.sessionTx, h]

theorem sessionTx_of_sending (h : s.hsState = .sending) : s.sessionTx = (List.range s.idx.toNat).map s.blk.read := by
  rw [State.sessionTx, h]

theorem sessionTx_of_verifyingEcho (h : s.hsState = .verifyingEcho) : s.sessionTx = s.blkBytes := by
  rw [State.sessionTx, h]

theorem sessionTx_of_awaitingDone (h : s.hsState = .awaitingDone) : s.sessionTx = s.blkBytes ++ [Config.proceed] := by
  rw [State.sessionTx, h]

/-- The verdict on a ready line sends nothing, so a session that ends there has sent nothing (R215, R216). -/
theorem judgeReady_sessionTx (s : State) : s.judgeReady.sessionTx = [] := by
  unfold State.judgeReady
  split <;> rfl

/-- Nor does the verdict on a done line, which comes after the block and PROCEED (R226, R227). -/
theorem judgeDone_sessionTx (s : State) : s.judgeDone.sessionTx = s.blkBytes ++ [Config.proceed] := by
  unfold State.judgeDone
  split <;> rfl

/-- The fetch takes nothing that the session has sent. -/
theorem State.FetchedFrom.sessionTx (h : s.FetchedFrom t) : t.sessionTx = s.sessionTx := by
  simp only [State.sessionTx, State.blkBytes, h.hsState, h.idx, h.blk, h.reason]

/-! ### The moves -/

theorem txData_of_sending (h : s.hsState = .sending) : s.txData = s.blk.read s.idx.toNat := if_pos h

/-- The verdict byte offered is ABORT after a mismatch and PROCEED after a match (R206). -/
theorem txData_of_verdictWaits {m : Bool} (h : s.verdictWaits m) :
    s.txData = if m then Config.abort else Config.proceed := by
  obtain ⟨hs, ht, hm⟩ := h
  simp [State.txData, hs, ht, hm]

/-- The byte that the channel accepts is the next byte of the session (R218, R219, R223, R224). -/
theorem State.Moves.sessionTx_of_txAccept (h : s.Moves .txAccept t) : t.sessionTx = s.sessionTx ++ [s.txData] := by
  cases h with
  | sendByte hs hi =>
    have hidx : (s.idx + 1).toNat = s.idx.toNat + 1 := by bv_omega
    have ht : s.sendByte.sessionTx = (List.range (s.idx + 1).toNat).map s.blk.read := sessionTx_of_sending hs
    rw [ht, hidx, List.range_succ, List.map_append, sessionTx_of_sending hs, txData_of_sending hs]
    rfl
  | sendLast hs hi =>
    rw [sessionTx_of_sending hs, txData_of_sending hs, hi]
    rfl
  | sendProceed hs => rw [sessionTx_of_verifyingEcho hs.1, txData_of_verdictWaits hs]; rfl
  | sendAbort hs => rw [sessionTx_of_verifyingEcho hs.1, txData_of_verdictWaits hs]; rfl

/-- No other event adds to the bytes of the session. -/
theorem State.Moves.sessionTx_of_ne (h : s.Moves e t) (he : e ≠ .txAccept) : t.sessionTx = s.sessionTx := by
  cases h with
  | readLine _ _ => rfl
  | judgeReady hs => rw [judgeReady_sessionTx, sessionTx_of_awaitingReady hs]
  | readyEnd hs => rw [State.readyEnd, judgeReady_sessionTx, sessionTx_of_awaitingReady hs]
  | judgeDone hs => rw [judgeDone_sessionTx, sessionTx_of_awaitingDone hs]
  | doneEnd hs => rw [State.doneEnd, judgeDone_sessionTx, sessionTx_of_awaitingDone hs]; rfl
  | echoByte hs _ =>
    rw [sessionTx_of_verifyingEcho hs.1, echoByte_eq]
    exact sessionTx_of_verifyingEcho hs.1
  | echoLast hs hi =>
    rw [sessionTx_of_verifyingEcho hs.1, echoLast_eq _ (congrArg BitVec.toNat hi)]
    exact sessionTx_of_verifyingEcho hs.1
  | echoEnd _ => rfl
  | sendByte _ _ | sendLast _ _ | sendProceed _ | sendAbort _ => exact absurd rfl he

/-- From `s` to `t` the session has sent some bytes, and the channel has accepted those and no others. -/
def State.SendsOn (s t : State) : Prop :=
  ∃ sent, t.txStream = s.txStream ++ sent ∧ t.sessionTx = s.sessionTx ++ sent

theorem State.SendsOn.of_eq (htx : t.txStream = s.txStream) (hsession : t.sessionTx = s.sessionTx) : s.SendsOn t :=
  ⟨[], by simpa using htx, by simpa using hsession⟩

theorem State.SendsOn.trans (h : s.SendsOn t) (k : t.SendsOn u) : s.SendsOn u := by
  obtain ⟨a, hta, hsa⟩ := h
  obtain ⟨b, htb, hsb⟩ := k
  exact ⟨a ++ b, by rw [htb, hta, List.append_assoc], by rw [hsb, hsa, List.append_assoc]⟩

theorem State.Moves.sendsOn (h : s.Moves e t) : s.SendsOn t := by
  by_cases he : e = .txAccept
  · subst he
    exact ⟨[s.txData], h.txStream_of_txAccept.2, h.sessionTx_of_txAccept⟩
  · exact .of_eq (h.txStream_of_ne he) (h.sessionTx_of_ne he)

/-! ### Every operation but the stand-alone FAIL, and the step -/

/-- From `s` to `t` nothing is sent and the session of `s` is left, by an accepted START, by CLEAR or by reset. -/
def State.LeavesSession (s t : State) : Prop :=
  t.txStream = s.txStream ∧ t.sessionTx = [] ∧
    (t.hsState = .idle ∨ (s.busy = false ∧ t.hsState = .awaitingReady))

theorem exec_sendsOn_or_leaves (h : exec i s = .next t) (hf : ∀ r, i ≠ .fail r) :
    s.SendsOn t ∨ s.LeavesSession t := by
  cases execEffect_of_exec h with
  | moves hm => exact .inl hm.sendsOn
  | delivers hd =>
    exact .inl (deliver_induction (P := s.SendsOn) (fun _ _ _ hp hs => hp.trans (moves_of_rxTransition hs).sendsOn)
      (fun _ _ hp => hp) (.of_eq rfl rfl) hd)
  | answers _ | writesField _ _ | resetsLine => exact .inl (.of_eq rfl rfl)
  | starts _ hb => exact .inr ⟨State.startSession_txStream s, rfl, .inr ⟨hb, rfl⟩⟩
  | clears _ _ | resets => exact .inr ⟨rfl, rfl, .inl rfl⟩
  | fails r _ _ => exact absurd rfl (hf r)

/-- Every step label of R8 runs a move, or an operation other than FAIL. -/
theorem runEvent_sendsOn_or_leaves (he : e.isLabel = true) (h : runEvent e s = .next t) :
    s.SendsOn t ∨ s.LeavesSession t := by
  have channel (hc : e.isChannel = true) : s.SendsOn t := by
    obtain ⟨u, hu, rfl⟩ := moves_of_runEvent hc h
    exact hu.sendsOn
  cases e with
  | rxByte _ | rxEnd | txAccept => exact .inl (channel rfl)
  | hostXn xn => exact exec_sendsOn_or_leaves h (decodeHost_ne_fail xn)
  | reset => exact exec_sendsOn_or_leaves (i := .reset) h nofun
  | word _ _ | op _ _ => cases he

theorem step_sendsOn_or_leaves (hd : s.deviceOnly) (h : step s = .next t) : s.SendsOn t ∨ s.LeavesSession t := by
  have hdev := fetch_device hd
  rcases step_next_cases h with hf | ⟨e, s', i, hf, hdec, hx⟩
  · have hfrom := (fetch_fetchedFrom s).1 t hf
    exact .inl (.of_eq hfrom.txStream hfrom.sessionTx)
  · rw [hf] at hdev
    have hfrom := (fetch_fetchedFrom s).2 e s' hf
    rcases runEvent_sendsOn_or_leaves hdev.1 ((runEvent_of_decode hdec).trans hx) with hs | ⟨htx, hsession, hstate⟩
    · exact .inl (.trans (.of_eq hfrom.txStream hfrom.sessionTx) hs)
    · have hbusy : s'.busy = s.busy := congrArg HsState.busy hfrom.hsState
      exact .inr ⟨htx.trans hfrom.txStream, hsession, hbusy ▸ hstate⟩

/-- Settles O57: a step of the session sends what it adds to the session's bytes, behind the same earlier bytes. -/
theorem stepKeepsSessionTrace : Obligations.StepKeepsSessionTrace := by
  intro earlier s t _ hd htrace h
  rcases step_sendsOn_or_leaves hd h with ⟨sent, htx, hsession⟩ | hleaves
  · exact .inl (by rw [htx, htrace, hsession, List.append_assoc])
  · exact .inr hleaves

end Sys2Proof.Machine
end

section
/-! PROOFS. The bounded line reader against the unbounded trimmed line (R209 to R212): what its elements are after any
sequence of bytes. -/

namespace Sys2Proof.Machine

open Sys2Proof

variable {ws bs lit : List Byte} {b : Byte} {l : LineReader} {n : Nat}

/-! ### Trimming -/

/-- A byte sequence without its trailing bytes of `ws` (R106). -/
def trimRight (ws bs : List Byte) : List Byte := bs.rdropWhile (· ∈ ws)

/-- A byte sequence without its leading bytes of `ws` (R106). -/
def trimLeft (ws bs : List Byte) : List Byte := bs.dropWhile (· ∈ ws)

/-- Trimming is trimming at the left, then at the right (R106). -/
theorem trim_eq (ws line : List Byte) : trim ws line = trimRight ws (trimLeft ws line) := rfl

theorem trimRight_concat_of_mem (hb : b ∈ ws) : trimRight ws (bs ++ [b]) = trimRight ws bs :=
  List.rdropWhile_concat_pos _ _ _ (by simpa using hb)

theorem trimRight_concat_of_not_mem (hb : b ∉ ws) : trimRight ws (bs ++ [b]) = bs ++ [b] :=
  List.rdropWhile_concat_neg _ _ _ (by simpa using hb)

theorem trimRight_prefix (ws bs : List Byte) : trimRight ws bs <+: bs := List.rdropWhile_prefix _ bs

theorem trimRight_length_le (ws bs : List Byte) : (trimRight ws bs).length ≤ bs.length :=
  (trimRight_prefix ws bs).length_le

/-- What is left of the first `n` bytes begins what is left of them all. -/
theorem trimRight_take_prefix (ws bs : List Byte) (n : Nat) : trimRight ws (bs.take n) <+: trimRight ws bs := by
  induction bs using List.reverseRecOn with
  | nil => simp
  | append_singleton bs b ih =>
    rcases Nat.lt_or_ge bs.length n with hlt | hle
    · rw [List.take_of_length_le (by simpa using hlt)]
    · rw [List.take_append_of_le_length hle]
      by_cases hb : b ∈ ws
      · rwa [trimRight_concat_of_mem hb]
      · rw [trimRight_concat_of_not_mem hb]
        exact ((trimRight_prefix ws _).trans (List.take_prefix n bs)).trans (List.prefix_append bs [b])

/-- If what is left fits into `n` bytes, the bytes after the first `n` play no part. -/
theorem trimRight_take_of_le (h : (trimRight ws bs).length ≤ n) : trimRight ws (bs.take n) = trimRight ws bs := by
  induction bs using List.reverseRecOn with
  | nil => simp
  | append_singleton bs b ih =>
    rcases Nat.lt_or_ge bs.length n with hlt | hle
    · rw [List.take_of_length_le (by simpa using hlt)]
    · rw [List.take_append_of_le_length hle]
      by_cases hb : b ∈ ws
      · rw [trimRight_concat_of_mem hb] at h ⊢
        exact ih h
      · rw [trimRight_concat_of_not_mem hb, List.length_append, List.length_singleton] at h
        omega

/-- A terminator at the end is whitespace and trimmed away (R106). -/
theorem trim_append_nl (hnl : Config.nl ∈ ws) (line : List Byte) : trim ws (line ++ [Config.nl]) = trim ws line := by
  rw [trim_eq, trim_eq]
  by_cases hempty : trimLeft ws line = []
  · have hleft : trimLeft ws (line ++ [Config.nl]) = [] := by
      rw [trimLeft, List.dropWhile_append]
      simpa [trimLeft, hnl] using hempty
    rw [hleft, hempty]
  · have hleft : trimLeft ws (line ++ [Config.nl]) = trimLeft ws line ++ [Config.nl] := by
      rw [trimLeft, List.dropWhile_append, if_neg (by simpa [trimLeft] using hempty)]
      rfl
    rw [hleft, trimRight_concat_of_mem hnl]

/-! ### The line reader after a line -/

/-- LINEBYTE skips what trimming takes off at the left (R210). -/
theorem LineReader.feed_trimLeft (ws line : List Byte) :
    LineReader.reset.feed ws line = LineReader.reset.feed ws (trimLeft ws line) := by
  induction line with
  | nil => rfl
  | cons b bs ih =>
    by_cases hb : b ∈ ws
    · have hleft : trimLeft ws (b :: bs) = trimLeft ws bs := List.dropWhile_cons_of_pos (by simpa using hb)
      rw [LineReader.feed_cons, LineReader.lineByte_skip rfl hb, ih, hleft]
    · have hleft : trimLeft ws (b :: bs) = b :: bs := List.dropWhile_cons_of_neg (by simpa using hb)
      rw [hleft]

/-- The line reader after the bytes `bs`, the first of them outside `ws`: it holds the first 64 of them, and knows of
those and of all how far the last byte outside `ws` stands (R33, R34). -/
structure LineReader.Tracks (ws : List Byte) (l : LineReader) (bs : List Byte) : Prop where
  buf : l.lrBuf = Memory.ofBytes 0 (bs.take 64)
  cnt : l.lrCnt.toNat = min bs.length 64
  end_eq : l.lrEnd.toNat = (trimRight ws (bs.take 64)).length
  lead : l.lrLead = false
  ovf : l.lrOvf = true ↔ 64 < (trimRight ws bs).length

theorem LineReader.tracks_first (hb : b ∉ ws) : (LineReader.reset.lineByte ws b).Tracks ws [b] := by
  rw [LineReader.lineByte_store (fun h => hb h.2) (by decide)]
  have hone : trimRight ws [b] = [b] := trimRight_concat_of_not_mem (bs := []) hb
  refine ⟨Memory.write_ofBytes_length [] b, rfl, ?_, rfl, ?_⟩
  · rw [if_neg hb, List.take_of_length_le (by simp), hone]; rfl
  · simp [hone, LineReader.reset]

/-- A byte for which there is room is stored (R210). -/
theorem LineReader.Tracks.lineByte_of_room (h : l.Tracks ws bs) (hlt : bs.length < 64) (b : Byte) :
    (l.lineByte ws b).Tracks ws (bs ++ [b]) := by
  obtain ⟨hbuf, hcnt, hend, hlead, hovf⟩ := h
  rw [List.take_of_length_le hlt.le] at hbuf hend
  have hcnt' : l.lrCnt.toNat = bs.length := by omega
  have hroom : l.lrCnt < 64 := by rw [BitVec.lt_def, hcnt']; exact hlt
  have hall : (bs ++ [b]).take 64 = bs ++ [b] := List.take_of_length_le (by simpa using hlt)
  rw [LineReader.lineByte_store (by simp [hlead]) hroom]
  refine { buf := ?buf, cnt := ?cnt, end_eq := ?end_eq, lead := rfl, ovf := ?ovf }
  case buf => rw [hbuf, hcnt', Memory.write_ofBytes_length, hall]
  case cnt => rw [LineReader.cnt_succ hroom, hcnt', List.length_append, List.length_singleton]; omega
  case end_eq =>
    rw [hall]
    by_cases hb : b ∈ ws
    · rw [if_pos hb, trimRight_concat_of_mem hb, hend]
    · rw [if_neg hb, trimRight_concat_of_not_mem hb, LineReader.cnt_succ hroom, hcnt', List.length_append,
        List.length_singleton]
  case ovf =>
    have hbefore := trimRight_length_le ws bs
    have hafter := trimRight_length_le ws (bs ++ [b])
    rw [List.length_append, List.length_singleton] at hafter
    rw [hovf]
    omega

/-- A byte for which there is none is dropped, and noted if it is outside `ws` (R210). -/
theorem LineReader.Tracks.lineByte_of_full (h : l.Tracks ws bs) (hge : 64 ≤ bs.length) (b : Byte) :
    (l.lineByte ws b).Tracks ws (bs ++ [b]) := by
  obtain ⟨hbuf, hcnt, hend, hlead, hovf⟩ := h
  have hcnt' : l.lrCnt.toNat = 64 := by omega
  have hfull : ¬l.lrCnt < 64 := by bv_omega
  have hstored : (bs ++ [b]).take 64 = bs.take 64 := List.take_append_of_le_length hge
  rw [LineReader.lineByte_drop (by simp [hlead]) hfull]
  refine { buf := hstored ▸ hbuf, cnt := ?cnt, end_eq := hstored ▸ hend, lead := rfl, ovf := ?ovf }
  case cnt => rw [hcnt', List.length_append]; omega
  case ovf =>
    by_cases hb : b ∈ ws
    · rw [if_pos hb, trimRight_concat_of_mem hb]
      exact hovf
    · rw [if_neg hb, trimRight_concat_of_not_mem hb, List.length_append, List.length_singleton]
      exact iff_of_true rfl (by omega)

theorem LineReader.Tracks.lineByte (h : l.Tracks ws bs) (b : Byte) : (l.lineByte ws b).Tracks ws (bs ++ [b]) := by
  rcases Nat.lt_or_ge bs.length 64 with hlt | hge
  · exact h.lineByte_of_room hlt b
  · exact h.lineByte_of_full hge b

theorem LineReader.Tracks.feed (h : l.Tracks ws bs) (cs : List Byte) : (l.feed ws cs).Tracks ws (bs ++ cs) := by
  induction cs generalizing l bs with
  | nil => simpa using h
  | cons c cs ih => simpa using ih (h.lineByte c)

/-- The first byte that trimming at the left keeps is outside `ws`. -/
theorem not_mem_of_trimLeft_eq_cons {line : List Byte} (h : trimLeft ws line = b :: bs) : b ∉ ws := by
  rw [trimLeft] at h
  have hhead := List.head_dropWhile_not (l := line) (fun x => decide (x ∈ ws)) (by simp [h])
  simpa [h] using hhead

/-- The bytes held below `lr_end` are the detail. -/
theorem LineReader.detail_of_buf (hbuf : l.lrBuf = Memory.ofBytes 0 bs) (hend : l.lrEnd.toNat ≤ bs.length) :
    l.detail = bs.take l.lrEnd.toNat := by
  rw [LineReader.detail, hbuf]
  apply List.ext_getElem
  · simpa using hend
  · intro j hj _
    have hj' : j < bs.length := by simp at hj; omega
    simp [Memory.read_ofBytes, hj']

theorem LineReader.Tracks.detail (h : l.Tracks ws bs) : l.detail = trimRight ws (bs.take 64) := by
  have hpre := trimRight_prefix ws (bs.take 64)
  rw [LineReader.detail_of_buf h.buf (h.end_eq ▸ hpre.length_le), h.end_eq]
  exact (List.prefix_iff_eq_take.mp hpre).symm

/-- THE LINE READER IS EXACT: after any bytes it has overflowed exactly when more than 64 are left of the trimmed
sequence, and its detail is what is left of the first 64 bytes after the leading whitespace. -/
theorem LineReader.feed_reset_exact (ws line : List Byte) :
    ((LineReader.reset.feed ws line).lrOvf = true ↔ 64 < (trim ws line).length) ∧
      (LineReader.reset.feed ws line).detail = trimRight ws ((trimLeft ws line).take 64) := by
  rw [LineReader.feed_trimLeft, trim_eq]
  cases h : trimLeft ws line with
  | nil => exact ⟨iff_of_false nofun (by simp [trimRight]), rfl⟩
  | cons b bs =>
    have htracks := (LineReader.tracks_first (not_mem_of_trimLeft_eq_cons h)).feed bs
    exact ⟨htracks.ovf, htracks.detail⟩

/-! ### The line as the detail shows it -/

theorem LineReader.detail_length (l : LineReader) : l.detail.length = l.lrEnd.toNat := by simp [LineReader.detail]

/-- `line_is` holds of the detail of a line that has not overflowed (R211). -/
theorem LineReader.lineIs_iff_detail : l.lineIs lit = true ↔ l.lrOvf = false ∧ l.detail = lit := by
  rw [LineReader.lineIs_iff, LineReader.Holds]
  refine and_congr_right fun _ => ⟨fun ⟨hend, hread⟩ => ?_, fun hdetail => ?_⟩
  · apply List.ext_getElem (by rw [LineReader.detail_length, hend])
    intro j _ hj
    have hbyte := hread j hj
    rw [List.getD_eq_getElem _ _ hj] at hbyte
    simpa [LineReader.detail] using hbyte
  · subst hdetail
    refine ⟨(LineReader.detail_length l).symm, fun j hj => ?_⟩
    rw [List.getD_eq_getElem _ _ hj]
    simp [LineReader.detail]

theorem LineReader.detail_feed_of_no_ovf {line : List Byte} (h : (LineReader.reset.feed ws line).lrOvf = false) :
    (LineReader.reset.feed ws line).detail = trim ws line := by
  obtain ⟨hovf, hdetail⟩ := LineReader.feed_reset_exact ws line
  have hfits : (trim ws line).length ≤ 64 := Nat.le_of_not_lt fun hlt => by simp [hovf.mpr hlt] at h
  exact hdetail.trans (trimRight_take_of_le hfits)

/-- The verdict on the line held is the verdict on the trimmed text (R211, R212). -/
theorem LineReader.lineIs_feed_iff (hlit : lit.length ≤ 64) (line : List Byte) :
    (LineReader.reset.feed ws line).lineIs lit = true ↔ trim ws line = lit := by
  obtain ⟨hovf, _⟩ := LineReader.feed_reset_exact ws line
  rw [LineReader.lineIs_iff_detail]
  constructor
  · rintro ⟨hno, hdetail⟩
    rw [← LineReader.detail_feed_of_no_ovf hno, hdetail]
  · intro htrim
    have hno : (LineReader.reset.feed ws line).lrOvf = false :=
      Bool.eq_false_iff.mpr fun h => absurd (hovf.mp h) (by rw [htrim]; omega)
    exact ⟨hno, (LineReader.detail_feed_of_no_ovf hno).trans htrim⟩

/-- Settles O40: the line reader tracks the line from its first byte outside `ws`, so its detail and its overflow are
those of the trimmed sequence cut at 64 bytes. -/
theorem lineReaderIsExact : Obligations.LineReaderIsExact := by
  intro ws line
  have hfeed : line.foldl (fun l b => l.lineByte ws b) LineReader.reset = LineReader.reset.feed ws line := rfl
  rw [hfeed]
  obtain ⟨hovf, hdetail⟩ := LineReader.feed_reset_exact ws line
  refine ⟨fun hnl => trim_append_nl hnl line, hovf, fun hno => ?exact, fun _ => ?cut,
    fun lit hlit => LineReader.lineIs_feed_iff hlit line⟩
  case exact =>
    have htrim := LineReader.detail_feed_of_no_ovf hno
    exact ⟨by rw [← htrim, LineReader.detail_length], htrim⟩
  case cut =>
    rw [← LineReader.detail_length, hdetail]
    refine ⟨(trimRight_length_le _ _).trans ?_, trimRight_take_prefix _ _ _⟩
    simp

end Sys2Proof.Machine
end

section
/-! PROOFS. The messages of a session (R200, R231, R233): a line judged by its trimmed text, the sixteen bytes sent, and
the echo compared byte for byte, each as one run of events. -/

namespace Sys2Proof.Machine

open Sys2Proof

variable {s t : State} {b : Byte} {bs : List Byte}

/-- The first event of a run, where it is a move of the controller. -/
theorem runEvents_cons_of_moves {e : Event} {es : List Event} (h : s.Moves e t) :
    runEvents (e :: es) s = runEvents es (t.answer .silent) := runEvents_cons (runEvent_of_moves h)

theorem runEvents_singleton_of_moves {e : Event} (h : s.Moves e t) : runEvents [e] s = .next (t.answer .silent) :=
  runEvents_cons_of_moves h

/-! ### A line -/

/-- The bytes of a line go to the line reader one after another, each as an `RxByte` (R214, R225). -/
theorem runEvents_line (hs : s.hsState = .awaitingReady ∨ s.hsState = .awaitingDone) (hline : Config.nl ∉ bs) :
    ∃ o, runEvents (bs.map .rxByte) s = .next ((s.setLr (s.lr.feed s.cfg.ws bs)).answer o) := by
  induction bs generalizing s with
  | nil => exact ⟨s.out, rfl⟩
  | cons b bs ih =>
    obtain ⟨hne, hbs⟩ : Config.nl ≠ b ∧ Config.nl ∉ bs := by simpa using hline
    rw [List.map_cons, runEvents_cons_of_moves (.readLine hs hne.symm)]
    exact ih (s := (s.readLineByte b).answer .silent) hs hbs

/-- The event that ends a line: the terminator, or the end of the read where the line is cut off. -/
def lineEnd (cut : Bool) : Event := if cut then .rxEnd else .rxByte Config.nl

/-- The end of a ready line is judged, and notes that the read has ended where it was cut off (R215 to R217). -/
theorem moves_readyLineEnd (cut : Bool) (hs : s.hsState = .awaitingReady) :
    s.Moves (lineEnd cut) (s.setRxEnded (s.rxEnded || cut)).judgeReady := by
  cases cut with
  | true => rw [Bool.or_true]; exact .readyEnd hs
  | false => rw [Bool.or_false]; exact .judgeReady hs

/-- So is the end of a done line (R226 to R228). -/
theorem moves_doneLineEnd (cut : Bool) (hs : s.hsState = .awaitingDone) :
    s.Moves (lineEnd cut) (s.setRxEnded (s.rxEnded || cut)).judgeDone := by
  cases cut with
  | true => rw [Bool.or_true]; exact .doneEnd hs
  | false => rw [Bool.or_false]; exact .judgeDone hs

/-- The state in which a line that was received and has ended is judged. -/
def State.lineReceived (line : List Byte) (cut : Bool) (s : State) : State :=
  (s.setLr (s.lr.feed s.cfg.ws line)).setRxEnded (s.rxEnded || cut)

theorem judgeReady_answer (o : Output) (s : State) : (s.answer o).judgeReady = s.judgeReady.answer o := by
  unfold State.judgeReady
  rw [apply_ite (State.answer o)]
  rfl

theorem judgeDone_answer (o : Output) (s : State) : (s.answer o).judgeDone = s.judgeDone.answer o := by
  unfold State.judgeDone
  rw [apply_ite (State.answer o)]
  rfl

/-- A line received byte by byte, and the move that its end makes. -/
theorem runEvents_line_append {e : Event} (hs : s.hsState = .awaitingReady ∨ s.hsState = .awaitingDone)
    (hline : Config.nl ∉ bs) (hend : ∀ o, ((s.setLr (s.lr.feed s.cfg.ws bs)).answer o).Moves e (t.answer o)) :
    runEvents (bs.map .rxByte ++ [e]) s = .next (t.answer .silent) := by
  obtain ⟨o, hrun⟩ := runEvents_line hs hline
  rw [runEvents_append hrun, runEvents_singleton_of_moves (hend o)]
  rfl

/-- A ready line received byte by byte is judged at its end (R200, step 1). -/
theorem runEvents_readyLine (cut : Bool) (hs : s.hsState = .awaitingReady) (hline : Config.nl ∉ bs) :
    runEvents (bs.map .rxByte ++ [lineEnd cut]) s = .next ((s.lineReceived bs cut).judgeReady.answer .silent) := by
  refine runEvents_line_append (.inl hs) hline fun o => ?_
  rw [← judgeReady_answer]
  exact moves_readyLineEnd cut hs

/-- So is a done line (R200, step 4). -/
theorem runEvents_doneLine (cut : Bool) (hs : s.hsState = .awaitingDone) (hline : Config.nl ∉ bs) :
    runEvents (bs.map .rxByte ++ [lineEnd cut]) s = .next ((s.lineReceived bs cut).judgeDone.answer .silent) := by
  refine runEvents_line_append (.inr hs) hline fun o => ?_
  rw [← judgeDone_answer]
  exact moves_doneLineEnd cut hs

/-- The verdict on a line received by a fresh line reader is the verdict on its trimmed text (R211, R212). -/
theorem lineIs_lineReceived_iff {lit : List Byte} (hlit : lit.length ≤ 64) (hl : s.lr = LineReader.reset) (cut : Bool) :
    (s.lineReceived bs cut).lr.lineIs lit = true ↔ trim s.cfg.ws bs = lit := by
  change (s.lr.feed s.cfg.ws bs).lineIs lit = true ↔ _
  rw [hl]
  exact LineReader.lineIs_feed_iff hlit bs

/-- Settles O41: the line is received by the line reader and judged at its end, and the verdict is the one on the
trimmed text. -/
theorem lineMessagesAreJudgedByTrimmedText : Obligations.LineMessagesAreJudgedByTrimmedText := by
  intro s line cut _ hline hl hs
  rcases hs with hs | hs
  · have hverdict := lineIs_lineReceived_iff (bs := line) (lit := Config.litReady) (by decide) hl cut
    refine ⟨_, runEvents_readyLine cut hs hline, ?_⟩
    by_cases htrim : trim s.cfg.ws line = Config.litReady
    · rw [judgeReady_of_match (hverdict.mpr htrim)]
      exact ⟨fun _ _ => ⟨rfl, rfl, rfl⟩, fun _ h => absurd htrim h, fun h => absurd (hs.symm.trans h) nofun,
        fun h => absurd (hs.symm.trans h) nofun, rfl, rfl, rfl, rfl, rfl, rfl, rfl, rfl, rfl⟩
    · rw [judgeReady_of_other (Bool.eq_false_iff.mpr (mt hverdict.mp htrim))]
      exact ⟨fun _ h => absurd h htrim, fun _ _ => ⟨rfl, rfl, rfl⟩, fun h => absurd (hs.symm.trans h) nofun,
        fun h => absurd (hs.symm.trans h) nofun, rfl, rfl, rfl, rfl, rfl, rfl, rfl, rfl, rfl⟩
  · have hverdict := lineIs_lineReceived_iff (bs := line) (lit := Config.litDone) (by decide) hl cut
    refine ⟨_, runEvents_doneLine cut hs hline, ?_⟩
    by_cases htrim : trim s.cfg.ws line = Config.litDone
    · rw [judgeDone_of_match (hverdict.mpr htrim)]
      exact ⟨fun h => absurd (hs.symm.trans h) nofun, fun h => absurd (hs.symm.trans h) nofun,
        fun _ _ => ⟨rfl, rfl, rfl⟩, fun _ h => absurd htrim h, rfl, rfl, rfl, rfl, rfl, rfl, rfl, rfl, rfl⟩
    · rw [judgeDone_of_other (Bool.eq_false_iff.mpr (mt hverdict.mp htrim))]
      exact ⟨fun h => absurd (hs.symm.trans h) nofun, fun h => absurd (hs.symm.trans h) nofun,
        fun _ h => absurd h htrim, fun _ _ => ⟨rfl, rfl, rfl⟩, rfl, rfl, rfl, rfl, rfl, rfl, rfl, rfl, rfl⟩

/-! ### The block -/

/-- `n` bytes of the block from byte `idx` on. -/
def State.blkFrom (s : State) (n : Nat) : List Byte := (List.range' s.idx.toNat n).map s.blk.read

/-- The byte at `idx`, and the bytes after it. -/
theorem blkFrom_succ (n : Nat) (hidx : s.idx.toNat < 31) :
    s.blkFrom (n + 1) = s.blkAtIdx :: (s.setIdx (s.idx + 1)).blkFrom n := by
  have hnext : (s.idx + 1).toNat = s.idx.toNat + 1 := by bv_omega
  rw [State.blkFrom, List.range'_succ, List.map_cons, State.blkFrom, State.setIdx_idx, hnext]
  rfl

theorem blkFrom_of_idx_zero (hidx : s.idx = 0) (n : Nat) : s.blkFrom n = (List.range n).map s.blk.read := by
  rw [State.blkFrom, hidx, List.range_eq_range']
  rfl

/-- From byte `idx` on the rest of the block is sent, one `TxAccept` a byte (R218, R219). -/
theorem runEvents_sendRest (k : Nat) (hs : s.hsState = .sending) (hidx : s.idx.toNat + k = 15) :
    runEvents (List.replicate (k + 1) .txAccept) s = .next
      { s with txStream := s.txStream ++ s.blkFrom (k + 1), hsState := .verifyingEcho, idx := 0, mism := false,
               txp := false, out := .silent } := by
  induction k generalizing s with
  | zero =>
    have hlast : s.idx = 15 := BitVec.eq_of_toNat_eq hidx
    rw [List.replicate_one, runEvents_singleton_of_moves (.sendLast hs hlast), State.blkFrom, hlast]
    rfl
  | succ k ih =>
    have hlt : s.idx < 15 := by bv_omega
    have hnext : (s.idx + 1).toNat + k = 15 := by bv_omega
    rw [List.replicate_succ, runEvents_cons_of_moves (.sendByte hs hlt),
      ih (s := s.sendByte.answer .silent) hs hnext, blkFrom_succ (k + 1) (by omega), List.append_cons]
    rfl

/-- Settles O42: from byte 0 the rest of the block is the whole block. -/
theorem sendingEmitsExactlyTheBlock : Obligations.SendingEmitsExactlyTheBlock := by
  intro s hs hidx
  rw [runEvents_sendRest 15 hs (by rw [hidx]; rfl), blkFrom_of_idx_zero hidx]

/-! ### The echo -/

/-- The rest of the echo is compared with the rest of the block, and the verdict byte waits (R220, R221). -/
theorem runEvents_echoRest (hs : s.readingEcho) (hlen : s.idx.toNat + bs.length = 16) (hne : bs ≠ []) :
    runEvents (bs.map .rxByte) s = .next
      { s with mism := s.mism || decide (bs ≠ s.blkFrom bs.length), idx := 16, txp := true, out := .silent } := by
  induction bs generalizing s with
  | nil => exact absurd rfl hne
  | cons b bs ih =>
    rw [List.length_cons] at hlen ⊢
    have hmism : (s.mism || decide (b :: bs ≠ s.blkFrom (bs.length + 1))) =
        ((s.mism || decide (b ≠ s.blkAtIdx)) || decide (bs ≠ (s.setIdx (s.idx + 1)).blkFrom bs.length)) := by
      rw [blkFrom_succ _ (by omega), Bool.or_assoc]
      simp
    rw [hmism, List.map_cons]
    rcases eq_or_ne bs [] with rfl | hbs
    · have hlast : s.idx = 15 := BitVec.eq_of_toNat_eq (by simpa using hlen)
      have hnone : decide (([] : List Byte) ≠ (s.setIdx (s.idx + 1)).blkFrom 0) = false := rfl
      rw [List.length_nil, hnone, Bool.or_false, List.map_nil, runEvents_singleton_of_moves (.echoLast hs hlast),
        State.echoLast, compareEcho_eq]
      rfl
    · have hpos : 0 < bs.length := List.length_pos_iff.mpr hbs
      have hlt : s.idx < 15 := by bv_omega
      have hnext : (s.idx + 1).toNat + bs.length = 16 := by bv_omega
      rw [runEvents_cons_of_moves (.echoByte hs hlt), State.echoByte, compareEcho_eq]
      exact ih (s := ((s.setMism _).setIdx _).answer .silent) hs hnext hbs

/-- An echo that ends early is a mismatch, whatever its bytes (R220, R222). -/
theorem runEvents_echoCut (hs : s.readingEcho) (hlen : s.idx.toNat + bs.length ≤ 15) :
    runEvents (bs.map .rxByte ++ [.rxEnd]) s = .next
      { s with idx := s.idx + BitVec.ofNat 5 bs.length, mism := true, rxEnded := true, txp := true,
               out := .silent } := by
  induction bs generalizing s with
  | nil =>
    have hidx : s.idx + BitVec.ofNat 5 0 = s.idx := BitVec.add_zero _
    rw [List.map_nil, List.nil_append, runEvents_singleton_of_moves (.echoEnd hs), List.length_nil, hidx]
    rfl
  | cons b bs ih =>
    rw [List.length_cons] at hlen ⊢
    have hlt : s.idx < 15 := by bv_omega
    have hnext : (s.idx + 1).toNat + bs.length ≤ 15 := by bv_omega
    have hidx : s.idx + BitVec.ofNat 5 (bs.length + 1) = s.idx + 1 + BitVec.ofNat 5 bs.length := by bv_omega
    rw [hidx, List.map_cons, List.cons_append, runEvents_cons_of_moves (.echoByte hs hlt), State.echoByte,
      compareEcho_eq]
    exact ih (s := ((s.setMism _).setIdx _).answer .silent) hs hnext

/-- Settles O43: an echo of sixteen bytes is compared with the block, a shorter one is a mismatch, and the channel
accepts the verdict byte of that comparison. -/
theorem echoVerdictIsByteForByte : Obligations.EchoVerdictIsByteForByte := by
  intro s echo hs hidx hmism htxp
  have hzero : s.idx.toNat = 0 := by rw [hidx]; rfl
  have full (hlen : echo.length = 16) : runEvents (echo.map .rxByte) s = .next { s with
      mism := decide (echo ≠ (List.range 16).map s.blk.read), idx := 16, txp := true, out := .silent } := by
    rw [runEvents_echoRest ⟨hs, htxp⟩ (by omega) (List.ne_nil_of_length_pos (by omega)), hmism, hlen,
      blkFrom_of_idx_zero hidx, Bool.false_or]
  refine ⟨fun hecho => ?faithful, fun hlen hecho => ?differing, fun hlen => ?short⟩
  case faithful =>
    have hsame : decide (echo ≠ (List.range 16).map s.blk.read) = false := by simp [hecho]
    calc runEvents (echo.map .rxByte ++ [.txAccept]) s
      _ = runEvents [.txAccept] _ := runEvents_append (full (by simp [hecho]))
      _ = .next (State.answer .silent (State.sendProceed _)) :=
        runEvents_singleton_of_moves (.sendProceed ⟨hs, rfl, hsame⟩)
      _ = _ := by rw [hsame, hmism, htxp]; rfl
  case differing =>
    have hdiffer : decide (echo ≠ (List.range 16).map s.blk.read) = true := by simp [hecho]
    calc runEvents (echo.map .rxByte ++ [.txAccept]) s
      _ = runEvents [.txAccept] _ := runEvents_append (full hlen)
      _ = .next (State.answer .silent (State.sendAbort _)) :=
        runEvents_singleton_of_moves (.sendAbort ⟨hs, rfl, hdiffer⟩)
      _ = _ := by rw [hdiffer, htxp]; rfl
  case short =>
    have hcount : s.idx + BitVec.ofNat 5 echo.length = BitVec.ofNat 5 echo.length := by
      rw [hidx]; exact BitVec.zero_add _
    calc runEvents (echo.map .rxByte ++ [.rxEnd, .txAccept]) s
      _ = runEvents (echo.map .rxByte ++ [.rxEnd] ++ [.txAccept]) s := by rw [← List.append_cons]
      _ = runEvents [.txAccept] _ := runEvents_append (runEvents_echoCut ⟨hs, htxp⟩ (by omega))
      _ = .next (State.answer .silent (State.sendAbort _)) :=
        runEvents_singleton_of_moves (.sendAbort ⟨hs, rfl, rfl⟩)
      _ = _ := by rw [hcount, htxp]; rfl

end Sys2Proof.Machine
end

section
/-! PROOFS. Progress and the state graph: from a state of the invariant no device step stops (R196, R234, R267), and
`hs_state` moves only along the edges of R201. -/

namespace Sys2Proof.Machine

open Sys2Proof

variable {e : Event} {s s' t : State}

/-! ### Progress -/

/-- A channel event is fetched only where the outputs enable it (R202, R204, R205). -/
theorem enables_of_fetch (he : e.isChannel = true) (h : fetch s = .event e s') : s.enables e = true := by
  unfold fetch at h
  split at h
  case h_5 => split at h <;> cases h; assumption
  case h_6 => split at h <;> cases h; assumption
  case h_7 => split at h <;> cases h; assumption
  case h_10 => split at h <;> cases h; cases he
  all_goals cases h <;> cases he

/-- From a state of the invariant the controller moves on every channel event that the outputs enable (R234). -/
theorem State.Inv.exists_moves (hi : s.Inv) (he : s.enables e = true) : ∃ t, s.Moves e t := by
  cases e with
  | rxByte b =>
    obtain ⟨t, ht⟩ := exists_rxTransition b he hi.echoIdx
    exact ⟨t, moves_of_rxTransition ht⟩
  | rxEnd =>
    rcases rxReady_iff.mp he with hs | hs | hs
    · exact ⟨_, .readyEnd hs⟩
    · exact ⟨_, .doneEnd hs⟩
    · exact ⟨_, .echoEnd hs⟩
  | txAccept => exact hi.moves_txAccept he
  | hostXn _ | reset | word _ _ | op _ _ => cases he

/-- The fetch moves no element that the outputs are functions of. -/
theorem State.FetchedFrom.enables (h : s.FetchedFrom t) (e : Event) : t.enables e = s.enables e := by
  cases e <;> simp only [State.enables, State.rxReady, State.txValid, h.hsState, h.txp]

theorem exists_runEvent_hostXn (xn : HostXn) (s : State) : ∃ t, runEvent (.hostXn xn) s = .next t := by
  rcases runEvent_hostXn_cases xn s with ⟨_, hrun⟩ | ⟨_, ⟨_, _, hrun⟩ | ⟨_, _, hrun⟩⟩ <;> exact ⟨_, hrun⟩

/-- Settles O55: an input that is no event passes, a channel event that is fetched is enabled and so is a move, and
every host transaction and reset complete. -/
theorem deviceStepsNeverStop : Obligations.DeviceStepsNeverStop := by
  intro s hi hd
  have hdev := fetch_device hd
  cases hf : fetch s with
  | quiet t => exact ⟨t, step_of_quiet hf⟩
  | event e s' =>
    rw [hf] at hdev
    rw [step_of_event hf]
    have channel (hc : e.isChannel = true) : ∃ t, runEvent e s' = .next t := by
      have hfrom := (fetch_fetchedFrom s).2 e s' hf
      obtain ⟨u, hu⟩ := (hfrom.inv hi).exists_moves ((hfrom.enables e).trans (enables_of_fetch hc hf))
      exact ⟨_, runEvent_of_moves hu⟩
    cases e with
    | rxByte _ | rxEnd | txAccept => exact channel rfl
    | hostXn xn => exact exists_runEvent_hostXn xn s'
    | reset => exact ⟨_, rfl⟩
    | word _ _ | op _ _ => cases hdev.1

/-! ### The state graph -/

theorem judgeReady_edge (h : s.hsState = .awaitingReady) :
    HsState.channelEdge s.hsState s.judgeReady.hsState = true := by
  unfold State.judgeReady
  rw [h]
  split <;> rfl

theorem judgeDone_edge (h : s.hsState = .awaitingDone) : HsState.channelEdge s.hsState s.judgeDone.hsState = true := by
  unfold State.judgeDone
  rw [h]
  split <;> rfl

/-- A move stays in its protocol state or takes an edge of the channel (R201). -/
theorem State.Moves.edge (h : s.Moves e t) :
    t.hsState = s.hsState ∨ HsState.channelEdge s.hsState t.hsState = true := by
  cases h with
  | readLine _ _ | sendByte _ _ | echoEnd _ => exact .inl rfl
  | echoByte _ _ => rw [echoByte_eq]; exact .inl rfl
  | echoLast _ hi => rw [echoLast_eq _ (congrArg BitVec.toNat hi)]; exact .inl rfl
  | judgeReady hs => exact .inr (judgeReady_edge hs)
  | readyEnd hs => exact .inr (judgeReady_edge (s := s.setRxEnded true) hs)
  | judgeDone hs => exact .inr (judgeDone_edge hs)
  | doneEnd hs => exact .inr (judgeDone_edge (s := s.setRxEnded true) hs)
  | sendLast hs _ => rw [hs]; exact .inr rfl
  | sendProceed hs => rw [hs.1]; exact .inr rfl
  | sendAbort hs => rw [hs.1]; exact .inr rfl

/-- A command of CTRL stays in the protocol state or takes an edge of the commands (R191, R192, R201). -/
theorem commandCtrl_edge (v : Word) (s : State) :
    (s.commandCtrl v).hsState = s.hsState ∨ HsState.commandEdge s.hsState (s.commandCtrl v).hsState = true := by
  rcases commandCtrl_cases v s with ⟨hb, hc⟩ | ⟨hd, hc⟩ | hc <;> rw [hc]
  · rcases busy_eq_false_iff.mp hb with hs | hs | hs <;> rw [hs] <;> exact .inr rfl
  · rcases done_iff.mp hd with hs | hs <;> rw [hs] <;> exact .inr rfl
  · exact .inl rfl

/-- Of the host transactions only a write of CTRL reaches the protocol state (R195). -/
theorem hostXn_edge {xn : HostXn} (h : runEvent (.hostXn xn) s = .next t) : t.hsState = s.hsState ∨
    ((∃ v, Event.hostXn xn = .hostXn (hostWord true 12 v)) ∧ HsState.commandEdge s.hsState t.hsState = true) := by
  rcases runEvent_hostXn_cases xn s with ⟨_, hrun⟩ | ⟨hbus, ⟨_, d, hrun⟩ | ⟨hw, _, _⟩⟩
  · rw [hrun] at h; cases busError_next h; exact .inl rfl
  · rw [hrun] at h; cases hostRead_next h; exact .inl rfl
  · obtain ⟨n, hn, hnum⟩ : ∃ n < 32, HostXn.addr xn = BitVec.ofNat 5 n :=
      ⟨(HostXn.addr xn).toNat, (HostXn.addr xn).isLt, by simp⟩
    rw [hw, hnum, busErrorAt_write_iff, BitVec.toNat_ofNat, Nat.mod_eq_of_lt hn] at hbus
    rw [← hostWord_parts xn, hw, hnum] at h ⊢
    have hwritable : n < 9 ∨ n = 12 := by omega
    rcases hwritable with hfield | rfl
    · rw [runEvent_writeField hfield] at h
      cases hostWrite_next h
      exact .inl rfl
    · have hctrl : hostWrite (s.commandCtrl (HostXn.wdata xn)) = .next t := (runEvent_writeCtrl _ s).symm.trans h
      cases hostWrite_next hctrl
      exact (commandCtrl_edge _ s).imp_right fun hedge => ⟨⟨_, rfl⟩, hedge⟩

/-- Settles O59: a channel event makes a move, a host transaction writes CTRL or leaves the protocol state alone, and
reset enters Idle. -/
theorem protocolStateMovesOnlyAlongItsGraph : Obligations.ProtocolStateMovesOnlyAlongItsGraph := by
  intro e s t hword hop h
  have channel (hc : e.isChannel = true) :
      t.hsState = s.hsState ∨ (e.isChannel = true ∧ HsState.channelEdge s.hsState t.hsState = true) := by
    obtain ⟨u, hu, rfl⟩ := moves_of_runEvent hc h
    exact hu.edge.imp_right (⟨hc, ·⟩)
  cases e with
  | rxByte _ | rxEnd | txAccept => exact (channel rfl).imp_right .inl
  | hostXn xn => exact (hostXn_edge h).imp_right fun hedge => .inr (.inl hedge)
  | reset => cases h; exact .inr (.inr (.inr ⟨rfl, rfl⟩))
  | word n w => exact absurd rfl (hword n w)
  | op r d => exact absurd rfl (hop r d)

end Sys2Proof.Machine
end

section
/-! PROOFS. The operations of the transition table one by one (R209 to R228, R256): what each writes where its row is
enabled, and that it writes nothing where it is not; and the outputs to the channel (R204 to R207). -/

namespace Sys2Proof.Machine

open Sys2Proof

variable {s : State} {b : Byte}

/-! ### Bytes of a line -/

/-- A byte counts once a byte outside `WS` has been seen, or by being outside `WS` itself (R210). -/
theorem not_skipped {ws : List Byte} {l : LineReader} (h : l.lrLead = false ∨ b ∉ ws) :
    ¬(l.lrLead = true ∧ b ∈ ws) := by
  rintro ⟨hlead, hmem⟩
  rcases h with h | h
  · exact Bool.false_ne_true (h.symm.trans hlead)
  · exact h hmem

/-- Settles O27: the three rows run LINEBYTE, and LINEBYTE does one of three things. -/
theorem lineBytesUpdateTheLineReader : Obligations.LineBytesUpdateTheLineReader := by
  intro b s hb
  exact ⟨s.lr.lineByte s.cfg.ws b, fun hs => whenEnabled_of ⟨hs, hb⟩ _ s, fun hs => whenEnabled_of ⟨hs, hb⟩ _ s,
    fun hs => whenEnabled_of ⟨hs, hb⟩ _ s, fun hlead hmem => LineReader.lineByte_skip hlead hmem,
    fun h hroom => LineReader.lineByte_store (not_skipped h) hroom,
    fun h hfull => LineReader.lineByte_drop (not_skipped h) (Nat.not_lt.mpr hfull)⟩

/-! ### Verdicts on a line -/

theorem isReadyLine_iff : s.isReadyLine = true ↔ s.lr.Holds Config.litReady := LineReader.lineIs_iff _ _

theorem isReadyLine_eq_false_iff : s.isReadyLine = false ↔ ¬s.lr.Holds Config.litReady :=
  LineReader.lineIs_eq_false_iff _ _

theorem isDoneLine_iff : s.isDoneLine = true ↔ s.lr.Holds Config.litDone := LineReader.lineIs_iff _ _

theorem isDoneLine_eq_false_iff : s.isDoneLine = false ↔ ¬s.lr.Holds Config.litDone :=
  LineReader.lineIs_eq_false_iff _ _

/-- Settles O28: the literal enables the row. -/
theorem literalLinesAdvance : Obligations.LiteralLinesAdvance := by
  intro s
  exact ⟨fun hs hl => whenEnabled_of ⟨hs, isReadyLine_iff.mpr hl⟩ _ s,
    fun hs hl => whenEnabled_of ⟨hs, isDoneLine_iff.mpr hl⟩ _ s⟩

/-- Settles O29: any other line enables the row. -/
theorem otherLinesFail : Obligations.OtherLinesFail := by
  intro s
  exact ⟨fun hs hl => whenEnabled_of ⟨hs, isReadyLine_eq_false_iff.mpr hl⟩ _ s,
    fun hs hl => whenEnabled_of ⟨hs, isDoneLine_eq_false_iff.mpr hl⟩ _ s⟩

theorem exec_arEnd (hs : s.hsState = .awaitingReady) :
    exec .arEnd s = .next ((s.setRxEnded true).judgeReady.answer .silent) := whenEnabled_of hs _ s

theorem exec_adEnd (hs : s.hsState = .awaitingDone) :
    exec .adEnd s = .next ((s.setRxEnded true).judgeDone.answer .silent) := whenEnabled_of hs _ s

/-- Settles O30: the end of the read is noted, and the line held is judged. -/
theorem endedLinesAreJudged : Obligations.EndedLinesAreJudged := by
  intro s
  refine ⟨fun hs hl => ?readyMatch, fun hs hl => ?readyOther, fun hs hl => ?doneMatch, fun hs hl => ?doneOther⟩
  case readyMatch => rw [exec_arEnd hs, judgeReady_of_match (s := s.setRxEnded true) (isReadyLine_iff.mpr hl)]; rfl
  case readyOther =>
    rw [exec_arEnd hs, judgeReady_of_other (s := s.setRxEnded true) (isReadyLine_eq_false_iff.mpr hl)]
    rfl
  case doneMatch => rw [exec_adEnd hs, judgeDone_of_match (s := s.setRxEnded true) (isDoneLine_iff.mpr hl)]; rfl
  case doneOther =>
    rw [exec_adEnd hs, judgeDone_of_other (s := s.setRxEnded true) (isDoneLine_eq_false_iff.mpr hl)]
    rfl

/-! ### The block, the echo and the verdict byte -/

/-- The model compares `idx` with 15 as a 5-bit value (R218 to R221). -/
theorem idx_eq_fifteen_iff {n : BitVec 5} : n = 15 ↔ n.toNat = 15 := BitVec.toNat_inj.symm

/-- Settles O31: SEND_BYTE is enabled below 15, SEND_LAST at 15. -/
theorem blockBytesAreTransmitted : Obligations.BlockBytesAreTransmitted := by
  intro s hs
  exact ⟨fun hi => whenEnabled_of ⟨hs, hi⟩ _ s, fun hi => whenEnabled_of ⟨hs, idx_eq_fifteen_iff.mpr hi⟩ _ s⟩

/-- Settles O32: each row is enabled at its place of the echo, and the comparison writes `mism` only. -/
theorem echoBytesAreCompared : Obligations.EchoBytesAreCompared := by
  intro b s hs ht
  have hreads : s.readingEcho := ⟨hs, ht⟩
  refine ⟨fun hi => ?echoByte, fun hi => ?echoLast, whenEnabled_of hreads _ s⟩
  case echoByte => exact (whenEnabled_of ⟨hreads, hi⟩ _ s).trans (by rw [echoByte_eq]; rfl)
  case echoLast =>
    exact (whenEnabled_of ⟨hreads, idx_eq_fifteen_iff.mpr hi⟩ _ s).trans (by rw [echoLast_eq b hi]; rfl)

/-- Settles O33: the verdict byte that waits enables its row, and the signal has the meaning of that row. -/
theorem verdictByteIsTransmitted : Obligations.VerdictByteIsTransmitted := by
  intro s hs ht
  exact ⟨fun hm => ⟨whenEnabled_of ⟨hs, ht, hm⟩ _ s, rfl⟩, fun hm => ⟨whenEnabled_of ⟨hs, ht, hm⟩ _ s, rfl⟩⟩

/-- Settles O34: LINE_RESET has no condition, and FAIL is enabled in a busy state. -/
theorem lineResetAndFailWriteOnlyTheirElements : Obligations.LineResetAndFailWriteOnlyTheirElements := by
  intro r s
  exact ⟨rfl, fun hb hr => whenEnabled_of ⟨hb, hr⟩ _ s⟩

/-! ### Rows that are not enabled -/

/-- An operation run under a guard that implies `q` changes nothing but the answer where `q` fails (log entry 5). -/
theorem exec_of_disabled {i : Instr} {p q : Prop} [Decidable p] {after : State}
    (hexec : exec i s = whenEnabled p after s) (hpq : p → q) (hq : ¬q) : exec i s = .next { s with out := .noStep } :=
  hexec.trans (whenEnabled_of_not (mt hpq hq) after s)

/-- Settles O37: every one of these rows is run under the condition of its row of R234 and does not happen elsewhere. -/
theorem disabledTransitionsChangeNothing : Obligations.DisabledTransitionsChangeNothing := by
  intro b r s
  have sameGuard {i : Instr} {p : Prop} [Decidable p] {after : State} (h : exec i s = whenEnabled p after s) :
      ¬p → exec i s = .next { s with out := .noStep } := exec_of_disabled h id
  refine ⟨sameGuard rfl, ?arNlMatch, ?arNlOther, sameGuard rfl, sameGuard rfl, ?sendLast, ?echoByte, ?echoLast,
    sameGuard rfl, sameGuard rfl, sameGuard rfl, sameGuard rfl, sameGuard rfl, sameGuard rfl, ?adNlMatch,
    ?adNlOther, sameGuard rfl, sameGuard rfl, sameGuard rfl⟩
  case arNlMatch => exact exec_of_disabled rfl (And.imp_right isReadyLine_iff.mp)
  case arNlOther => exact exec_of_disabled rfl (And.imp_right isReadyLine_eq_false_iff.mp)
  case sendLast => exact exec_of_disabled rfl (And.imp_right idx_eq_fifteen_iff.mp)
  case echoByte => exact exec_of_disabled rfl and_assoc.mp
  case echoLast => exact exec_of_disabled rfl fun ⟨⟨hs, ht⟩, hi⟩ => ⟨hs, ht, idx_eq_fifteen_iff.mp hi⟩
  case adNlMatch => exact exec_of_disabled rfl (And.imp_right isDoneLine_iff.mp)
  case adNlOther => exact exec_of_disabled rfl (And.imp_right isDoneLine_eq_false_iff.mp)

/-! ### The outputs to the channel -/

/-- While a byte is offered nothing is read (R205). -/
theorem rxReady_of_txValid (h : s.txValid = true) : s.rxReady = false := by
  rcases txValid_iff.mp h with hs | ⟨hs, ht⟩
  · simp [State.rxReady, hs]
  · simp [State.rxReady, hs, ht]

/-- Where no byte is offered `tx_data` is 0x00 (R206). -/
theorem txData_of_not_txValid (h : s.txValid = false) : s.txData = 0x00 := by
  have hno : ¬(s.hsState = .sending ∨ (s.hsState = .verifyingEcho ∧ s.txp = true)) := by
    rw [← txValid_iff, h]; nofun
  obtain ⟨hsending, hverdict⟩ := not_or.mp hno
  rw [State.txData, if_neg hsending, if_neg hverdict]

/-- A busy session reads or offers a byte; in VerifyingEcho `txp` says which (R35, R204, R205). -/
theorem busy_iff_reads_or_offers : s.busy = true ↔ s.rxReady = true ∨ s.txValid = true := by
  rw [busy_iff, rxReady_iff, txValid_iff]
  constructor
  · rintro (hs | hs | hs | hs)
    · exact .inl (.inl hs)
    · exact .inr (.inl hs)
    · cases ht : s.txp with
      | false => exact .inl (.inr (.inr ⟨hs, ht⟩))
      | true => exact .inr (.inr ⟨hs, rfl⟩)
    · exact .inl (.inr (.inl hs))
  · rintro ((hs | hs | ⟨hs, _⟩) | (hs | ⟨hs, _⟩))
    · exact .inl hs
    · exact .inr (.inr (.inr hs))
    · exact .inr (.inr (.inl hs))
    · exact .inr (.inl hs)
    · exact .inr (.inr (.inl hs))

/-- Settles O44, output by output. -/
theorem channelOutputsFollowTheState : Obligations.ChannelOutputsFollowTheState := by
  intro s
  have hexclusive : ¬(s.rxReady = true ∧ s.txValid = true) := fun ⟨hr, hv⟩ => by
    rw [rxReady_of_txValid hv] at hr; cases hr
  exact ⟨rxReady_iff, txValid_iff, hexclusive, txData_of_sending, fun hs ht => txData_of_verdictWaits ⟨hs, ht, rfl⟩,
    txData_of_not_txValid, rfl, rfl, busy_iff_reads_or_offers⟩

end Sys2Proof.Machine
end

section
/-! PROOFS. The outcomes (R250, R256, R264): what a host transaction can do to a session, and that every step on a device
input leaves what the outcome table says. -/

namespace Sys2Proof.Machine

open Sys2Proof

variable {e : Event} {s t : State}

/-! ### What a host transaction leaves -/

/-- To a session a host transaction does nothing, but for an accepted START or CLEAR: otherwise the field registers and
the answer are all that it can write (R173 to R181, R184, R194). -/
theorem hostXn_leaves {xn : HostXn} (h : runEvent (.hostXn xn) s = .next t) :
    (∃ G o, t = { s with F := G, out := o }) ∨
    (s.busy = false ∧ t = s.startSession.answer (.host 0 false)) ∨
    (s.done = true ∧ t = s.clearSession.answer (.host 0 false)) := by
  rcases runEvent_hostXn_cases xn s with ⟨_, hrun⟩ | ⟨hbus, ⟨_, d, hrun⟩ | ⟨hw, _, _⟩⟩
  · rw [hrun] at h
    exact .inl ⟨s.F, _, busError_next h⟩
  · rw [hrun] at h
    exact .inl ⟨s.F, _, hostRead_next h⟩
  · obtain ⟨n, hn, hnum⟩ : ∃ n < 32, HostXn.addr xn = BitVec.ofNat 5 n :=
      ⟨(HostXn.addr xn).toNat, (HostXn.addr xn).isLt, by simp⟩
    rw [hw, hnum, busErrorAt_write_iff, BitVec.toNat_ofNat, Nat.mod_eq_of_lt hn] at hbus
    rw [← hostWord_parts xn, hw, hnum] at h
    have hwritable : n < 9 ∨ n = 12 := by omega
    rcases hwritable with hfield | rfl
    · rw [runEvent_writeField hfield] at h
      cases hostWrite_next h
      exact .inl ⟨_, _, rfl⟩
    · have ht := hostWrite_next ((runEvent_writeCtrl _ s).symm.trans h)
      rcases commandCtrl_cases (HostXn.wdata xn) s with ⟨hb, hc⟩ | ⟨hd, hc⟩ | hc <;> rw [hc] at ht
      · exact .inr (.inl ⟨hb, ht⟩)
      · exact .inr (.inr ⟨hd, ht⟩)
      · exact .inl ⟨s.F, _, ht⟩

/-! ### What the invariant on outcomes does not speak of -/

/-- The field registers, the streams, the pending inputs and the answer are no part of an outcome. -/
theorem State.OutcomeInv.of_other (ho : s.OutcomeInv) (G : Fields) (rx : List Byte) (ps : List Input) (o : Output) :
    ({ s with F := G, rxStream := rx, pending := ps, out := o } : State).OutcomeInv :=
  ⟨ho.ready, ho.success, ho.writerNotDetected, ho.echoMismatch, ho.writeFailed⟩

theorem State.OutcomeInv.answer (ho : s.OutcomeInv) (o : Output) : (s.answer o).OutcomeInv := ho.of_other _ _ _ _

/-- The fetch writes these three elements at most. -/
theorem State.FetchedFrom.eq (h : s.FetchedFrom t) :
    t = { s with rxStream := t.rxStream, pending := t.pending, out := t.out } := by
  obtain ⟨⟩ := h
  cases s; cases t
  simp_all

theorem State.FetchedFrom.outcomeInv (h : s.FetchedFrom t) (ho : s.OutcomeInv) : t.OutcomeInv := by
  rw [h.eq]
  exact ho.of_other _ _ _ _

/-! ### The moves -/

/-- A session that has not failed has no reason, so of the outcomes only Success speaks of it (R27). -/
theorem outcomeInv_of_reason_none (hr : s.reason = .none)
    (hready : s.hsState = .sending ∨ s.hsState = .verifyingEcho → s.isReadyLine = true)
    (hsuccess : s.hsState = .success → s.mism = false ∧ s.idx = 16 ∧ s.isDoneLine = true) : s.OutcomeInv :=
  ⟨hready, hsuccess, by simp [hr], by simp [hr], by simp [hr]⟩

/-- Before Sending and in AwaitingDone there is nothing to say. -/
theorem outcomeInv_of_line_state (hr : s.reason = .none)
    (hs : s.hsState = .idle ∨ s.hsState = .awaitingReady ∨ s.hsState = .awaitingDone) : s.OutcomeInv :=
  outcomeInv_of_reason_none hr (by rcases hs with h | h | h <;> simp [h]) (by rcases hs with h | h | h <;> simp [h])

/-- On the way from Sending to the verdict the ready line is still held. -/
theorem outcomeInv_of_ready_line (hr : s.reason = .none) (hl : s.isReadyLine = true) (hs : s.hsState ≠ .success) :
    s.OutcomeInv :=
  outcomeInv_of_reason_none hr (fun _ => hl) (absurd · hs)

/-- The verdict on a ready line is the line held: WRITER READY in Sending, anything else after WriterNotDetected. -/
theorem judgeReady_outcomeInv (hreason : s.reason = .none) (hidx : s.idx = 0) (hmism : s.mism = false) :
    s.judgeReady.OutcomeInv := by
  cases hl : s.isReadyLine with
  | true => rw [judgeReady_of_match hl]; exact outcomeInv_of_ready_line hreason hl nofun
  | false => rw [judgeReady_of_other hl]; exact ⟨nofun, nofun, fun _ => ⟨hmism, hidx, hl⟩, nofun, nofun⟩

/-- The verdict on a done line is the line held: WRITE DONE in Success, anything else after WriteFailed. -/
theorem judgeDone_outcomeInv (hreason : s.reason = .none) (hidx : s.idx = 16) (hmism : s.mism = false) :
    s.judgeDone.OutcomeInv := by
  cases hl : s.isDoneLine with
  | true => rw [judgeDone_of_match hl]; exact outcomeInv_of_reason_none hreason nofun fun _ => ⟨hmism, hidx, hl⟩
  | false => rw [judgeDone_of_other hl]; exact ⟨nofun, nofun, nofun, nofun, fun _ => ⟨hmism, hidx, hl⟩⟩

/-- THE STEP LEMMA: every move leads to a state of which the outcome table holds. -/
theorem State.Moves.outcomeInv (h : s.Moves e t) (hi : s.Inv) (ho : s.OutcomeInv) : t.OutcomeInv := by
  have hreason : s.reason = .none := by
    by_contra hr
    have hfailed := hi.reasonIff.mp hr
    have hbusy := h.busy
    simp [State.busy, hfailed, HsState.busy] at hbusy
  cases h with
  | readLine hs _ => exact outcomeInv_of_line_state hreason (.inr hs)
  | judgeReady hs =>
    obtain ⟨hidx, hmism, _⟩ := hi.readyFresh hs
    exact judgeReady_outcomeInv hreason hidx hmism
  | readyEnd hs =>
    obtain ⟨hidx, hmism, _⟩ := hi.readyFresh hs
    exact judgeReady_outcomeInv (s := s.setRxEnded true) hreason hidx hmism
  | sendByte hs _ => exact outcomeInv_of_ready_line hreason (ho.ready (.inl hs)) (by simp [State.sendByte, hs])
  | sendLast hs _ => exact outcomeInv_of_ready_line hreason (ho.ready (.inl hs)) nofun
  | echoByte hs _ =>
    rw [echoByte_eq]
    exact outcomeInv_of_ready_line hreason (ho.ready (.inr hs.1)) (by simp [hs.1])
  | echoLast hs hi =>
    rw [echoLast_eq _ (congrArg BitVec.toNat hi)]
    exact outcomeInv_of_ready_line hreason (ho.ready (.inr hs.1)) (by simp [hs.1])
  | echoEnd hs => exact outcomeInv_of_ready_line hreason (ho.ready (.inr hs.1)) (by simp [State.echoEnd, hs.1])
  | sendProceed _ => exact outcomeInv_of_line_state hreason (.inr (.inr rfl))
  | sendAbort hs =>
    exact ⟨nofun, nofun, nofun, fun _ => ⟨hs.2.2, hi.idxLe, ho.ready (.inr hs.1)⟩, nofun⟩
  | judgeDone hs =>
    obtain ⟨hidx, hmism⟩ := hi.doneFresh hs
    exact judgeDone_outcomeInv hreason hidx hmism
  | doneEnd hs =>
    obtain ⟨hidx, hmism⟩ := hi.doneFresh hs
    exact judgeDone_outcomeInv (s := s.setRxEnded true) hreason hidx hmism

/-! ### The step labels and the step -/

/-- Every step label of R8 keeps the invariant on outcomes: a channel event by its move, START, CLEAR and reset by
leaving no outcome at all. -/
theorem runEvent_keeps_outcomeInv (he : e.isLabel = true) (h : runEvent e s = .next t) (hi : s.Inv)
    (ho : s.OutcomeInv) : t.OutcomeInv := by
  have channel (hc : e.isChannel = true) : t.OutcomeInv := by
    obtain ⟨u, hu, rfl⟩ := moves_of_runEvent hc h
    exact (hu.outcomeInv hi ho).answer _
  cases e with
  | rxByte _ | rxEnd | txAccept => exact channel rfl
  | hostXn xn =>
    rcases hostXn_leaves h with ⟨G, o, rfl⟩ | ⟨_, rfl⟩ | ⟨_, rfl⟩
    · exact ho.of_other _ _ _ _
    · exact (outcomeInv_of_line_state rfl (.inr (.inl rfl))).answer _
    · exact (outcomeInv_of_line_state rfl (.inl rfl)).answer _
  | reset => cases h; exact (outcomeInv_of_line_state rfl (.inl rfl)).answer _
  | word _ _ | op _ _ => cases he

/-- Settles O56: the fetch is no part of an outcome, and the event it takes is one of the six labels. -/
theorem stepKeepsOutcomeTable : Obligations.StepKeepsOutcomeTable := by
  intro s t hi ho hd h
  rcases step_next_cases h with hf | ⟨e, s', i, hf, hdec, hx⟩
  · exact ((fetch_fetchedFrom s).1 t hf).outcomeInv ho
  · have hdev := fetch_device hd
    rw [hf] at hdev
    have hfrom := (fetch_fetchedFrom s).2 e s' hf
    exact runEvent_keeps_outcomeInv hdev.1 ((runEvent_of_decode hdec).trans hx) (hfrom.inv hi) (hfrom.outcomeInv ho)

end Sys2Proof.Machine
end

section
/-! PROOFS. One clock cycle (R202, R259): the inputs that it stands for. -/

namespace Sys2Proof.Machine

open Sys2Proof

variable {s : State} {p : Pins} {ps : List Input}

/-- A cycle makes no event: its inputs take its place in front of the pending ones (R259). -/
theorem fetch_of_cycle (h : s.pending = .cycle p :: ps) :
    fetch s = .quiet ((s.setPending (p.inputs s ++ ps)).answer .silent) := by simp [fetch, h]

/-! ### The inputs of a cycle -/

theorem inputs_of_rst (h : p.rst = true) (s : State) : p.inputs s = [.reset] := if_pos h

theorem inputs_of_not_rst (h : p.rst = false) (s : State) : p.inputs s = p.channelInputs s ++ p.hostInputs :=
  if_neg (by simp [h])

/-- While the controller reads, `rx_valid` wins over `rx_end`. -/
theorem channelInputs_of_rxValid (hr : s.rxReady = true) (hv : p.rxValid = true) (hb : s.rxStream ≠ []) :
    p.channelInputs s = [.rxByte] := by simp [Pins.channelInputs, hr, hv, hb]

/-- Where no byte is offered `rx_end` ends the read. -/
theorem channelInputs_of_rxEnd (hr : s.rxReady = true) (hv : p.rxValid = false ∨ s.rxStream = [])
    (he : p.rxEnd = true) : p.channelInputs s = [.rxEnd] := by
  rcases hv with hv | hb
  · simp [Pins.channelInputs, hr, hv, he]
  · simp [Pins.channelInputs, hr, hb, he]

/-- While a byte is offered nothing is read, and `tx_ready` accepts it. -/
theorem channelInputs_of_txReady (hv : s.txValid = true) (ht : p.txReady = true) :
    p.channelInputs s = [.txAccept] := by simp [Pins.channelInputs, rxReady_of_txValid hv, hv, ht]

/-- A channel that presents nothing the outputs enable takes no step. -/
theorem channelInputs_eq_nil
    (hr : s.rxReady = false ∨ ((p.rxValid = false ∨ s.rxStream = []) ∧ p.rxEnd = false))
    (ht : s.txValid = false ∨ p.txReady = false) : p.channelInputs s = [] := by
  have hwrites : (s.txValid && p.txReady) = false := by rcases ht with ht | ht <;> simp [ht]
  rcases hr with hr | ⟨hv | hb, he⟩
  · simp [Pins.channelInputs, hr, hwrites]
  · simp [Pins.channelInputs, hv, he, hwrites]
  · simp [Pins.channelInputs, hb, he, hwrites]

/-! ### The step on a cycle -/

/-- Without `rst` the step puts the channel's input and then the host's transaction in front. -/
theorem step_of_cycle {ins : List Input} (h : s.pending = .cycle p :: ps) (hrst : p.rst = false)
    (hins : p.channelInputs s = ins) :
    step s = .next { s with pending := ins ++ (p.host.toList.map .hostXn ++ ps), out := .silent } := by
  rw [step_of_quiet (fetch_of_cycle h), inputs_of_not_rst hrst, hins, List.append_assoc]
  rfl

/-- Settles O51: reset stands alone, and the four other clauses are the four things the channel can do in a cycle. -/
theorem clockCycleOrdersItsEvents : Obligations.ClockCycleOrdersItsEvents := by
  intro s p ps h
  refine ⟨fun hrst => ?reset, fun hrst hr hv hb => ?rxByte, fun hrst hr hv he => ?rxEnd,
    fun hrst hv ht => ?txAccept, fun hrst hr ht => ?nothing⟩
  case reset => rw [step_of_quiet (fetch_of_cycle h), inputs_of_rst hrst]; rfl
  case rxByte => exact step_of_cycle h hrst (channelInputs_of_rxValid hr hv hb)
  case rxEnd => exact step_of_cycle h hrst (channelInputs_of_rxEnd hr hv he)
  case txAccept => exact step_of_cycle h hrst (channelInputs_of_txReady hv ht)
  case nothing => exact step_of_cycle h hrst (channelInputs_eq_nil hr ht)

end Sys2Proof.Machine
end

section
/-! PROOFS. The distance of a session from its end (R235, R266): every move keeps its place in a line or brings the end
nearer. -/

namespace Sys2Proof.Machine

open Sys2Proof

variable {e : Event} {s t : State}

/-! ### The elements that the distance is measured by -/

/-- Both states stand at the same place of a session. -/
structure State.SamePlace (s t : State) : Prop where
  hsState : t.hsState = s.hsState
  idx : t.idx = s.idx
  txp : t.txp = s.txp

theorem State.SamePlace.refl (s : State) : s.SamePlace s := ⟨rfl, rfl, rfl⟩

theorem State.SamePlace.trans {u : State} (h : s.SamePlace t) (k : t.SamePlace u) : s.SamePlace u :=
  ⟨k.hsState.trans h.hsState, k.idx.trans h.idx, k.txp.trans h.txp⟩

theorem State.FetchedFrom.samePlace (h : s.FetchedFrom t) : s.SamePlace t := ⟨h.hsState, h.idx, h.txp⟩

theorem State.SamePlace.distance (h : s.SamePlace t) : t.distance = s.distance := by
  simp only [State.distance, h.hsState, h.idx, h.txp]

theorem State.SamePlace.busy (h : s.SamePlace t) : t.busy = s.busy := congrArg HsState.busy h.hsState

theorem State.SamePlace.echoInRange (h : s.SamePlace t) (hr : s.EchoInRange) : t.EchoInRange := by
  intro ⟨hs, ht⟩
  rw [h.idx]
  exact hr ⟨h.hsState ▸ hs, h.txp ▸ ht⟩

theorem State.SamePlace.lineContinues (h : s.SamePlace t) (e : Event) : t.lineContinues e = s.lineContinues e := by
  cases e <;> simp only [State.lineContinues, h.hsState]

/-! ### The distance, an equation per protocol state -/

theorem distance_of_awaitingReady (h : s.hsState = .awaitingReady) : s.distance = 60 := by rw [State.distance, h]

theorem distance_of_sending (h : s.hsState = .sending) : s.distance = 50 - s.idx.toNat := by rw [State.distance, h]

theorem distance_of_readingEcho (h : s.readingEcho) : s.distance = 30 - s.idx.toNat := by
  simp [State.distance, h.1, h.2]

theorem distance_of_txp (hs : s.hsState = .verifyingEcho) (ht : s.txp = true) : s.distance = 10 := by
  simp [State.distance, hs, ht]

theorem distance_of_awaitingDone (h : s.hsState = .awaitingDone) : s.distance = 5 := by rw [State.distance, h]

/-- The verdict on a ready line leads to the first byte of the block or to the end. -/
theorem judgeReady_distance_le (s : State) : s.judgeReady.distance ≤ 50 := by
  unfold State.judgeReady
  split
  · exact Nat.sub_le _ _
  · exact Nat.zero_le _

/-- The verdict on a done line ends the session. -/
theorem judgeDone_distance (s : State) : s.judgeDone.distance = 0 := by
  unfold State.judgeDone
  split <;> rfl

/-! ### The moves -/

/-- The events that continue a line are its bytes other than `NL`. -/
theorem lineContinues_rxByte {b : Byte} : s.lineContinues (.rxByte b) = true ↔
    (s.hsState = .awaitingReady ∨ s.hsState = .awaitingDone) ∧ b ≠ Config.nl := by
  simp [State.lineContinues]

/-- A byte that continues a line leaves the session where it is (R214, R225). -/
theorem State.Moves.samePlace (h : s.Moves e t) (hl : s.lineContinues e = true) : s.SamePlace t := by
  cases h with
  | readLine _ _ => exact ⟨rfl, rfl, rfl⟩
  | judgeReady _ | judgeDone _ => exact absurd rfl (lineContinues_rxByte.mp hl).2
  | echoByte hs _ | echoLast hs _ =>
    rcases (lineContinues_rxByte.mp hl).1 with h | h <;> exact absurd (hs.1.symm.trans h) nofun
  | readyEnd _ | doneEnd _ | echoEnd _ | sendByte _ _ | sendLast _ _ | sendProceed _ | sendAbort _ => cases hl

/-- Every other move brings the session nearer its end (R235). -/
theorem State.Moves.distance_lt (h : s.Moves e t) (hr : s.EchoInRange) (hl : s.lineContinues e = false) :
    t.distance < s.distance := by
  cases h with
  | readLine hs hb => exact absurd (lineContinues_rxByte.mpr ⟨hs, hb⟩) (by simp [hl])
  | judgeReady hs =>
    rw [distance_of_awaitingReady hs]
    exact Nat.lt_of_le_of_lt (judgeReady_distance_le s) (by decide)
  | readyEnd hs =>
    rw [distance_of_awaitingReady hs]
    exact Nat.lt_of_le_of_lt (judgeReady_distance_le (s.setRxEnded true)) (by decide)
  | sendByte hs hi =>
    have ht : s.sendByte.distance = 50 - (s.idx + 1).toNat := distance_of_sending hs
    rw [ht, distance_of_sending hs]
    bv_omega
  | sendLast hs hi =>
    have ht : s.sendLast.distance = 30 := rfl
    rw [ht, distance_of_sending hs, hi]
    decide
  | @echoByte b hs hi =>
    have ht : (s.echoByte b).distance = 30 - (s.idx + 1).toNat := by
      rw [echoByte_eq]; exact distance_of_readingEcho hs
    rw [ht, distance_of_readingEcho hs]
    bv_omega
  | echoLast hs hi =>
    rw [distance_of_txp (by rw [echoLast_eq _ (congrArg BitVec.toNat hi)]; exact hs.1) rfl,
      distance_of_readingEcho hs, hi]
    decide
  | echoEnd hs =>
    have hidx : s.idx.toNat ≤ 15 := hr hs
    rw [distance_of_txp (s := s.echoEnd) hs.1 rfl, distance_of_readingEcho hs]
    omega
  | sendProceed hs =>
    have ht : s.sendProceed.distance = 5 := rfl
    rw [ht, distance_of_txp hs.1 hs.2.1]
    decide
  | sendAbort hs =>
    have ht : s.sendAbort.distance = 0 := rfl
    rw [ht, distance_of_txp hs.1 hs.2.1]
    decide
  | judgeDone hs =>
    rw [distance_of_awaitingDone hs, judgeDone_distance]
    decide
  | doneEnd hs =>
    rw [distance_of_awaitingDone hs, State.doneEnd, judgeDone_distance]
    decide

/-- Settles O58: the controller moves on every event enabled, and a move continues a line or brings the end nearer. -/
theorem channelEventsBringTheSessionOn : Obligations.ChannelEventsBringTheSessionOn := by
  intro s hi hb
  refine ⟨?enabled, fun e he => ?runs⟩
  case enabled =>
    rcases busy_iff_reads_or_offers.mp hb with hr | hv
    · exact ⟨.rxEnd, rfl, hr⟩
    · exact ⟨.txAccept, rfl, hv⟩
  case runs =>
    obtain ⟨u, hu⟩ := hi.exists_moves he
    refine ⟨_, runEvent_of_moves hu, fun hl => ?_, hu.distance_lt hi.echoIdx⟩
    have hplace := hu.samePlace hl
    exact ⟨hplace.distance, hplace.hsState⟩

end Sys2Proof.Machine
end

section
/-! PROOFS. Fairness of the channel ends every session (R235, R266): from a busy state there is a first step that resets
the device or brings the session on, and it brings the end nearer. -/

namespace Sys2Proof.Machine

open Sys2Proof

variable {e : Event} {s t : State}

/-! ### One step -/

/-- Every move leaves `idx` in range while the echo is read: it rises by one below 15, and from 0. -/
theorem State.Moves.echoInRange (h : s.Moves e t) : t.EchoInRange := by
  cases h with
  | readLine hs hb => exact echoInRange_of_rxTransition (rxTransition_of_moves (.readLine hs hb))
  | judgeReady hs => exact echoInRange_of_rxTransition (rxTransition_of_moves (.judgeReady hs))
  | judgeDone hs => exact echoInRange_of_rxTransition (rxTransition_of_moves (.judgeDone hs))
  | echoByte hs hi => exact echoInRange_of_rxTransition (rxTransition_of_moves (.echoByte hs hi))
  | echoLast hs hi => exact echoInRange_of_rxTransition (rxTransition_of_moves (.echoLast hs hi))
  | readyEnd _ => exact echoInRange_of_ne (judgeReady_hsState_ne _)
  | doneEnd _ => exact echoInRange_of_ne (judgeDone_hsState_ne _)
  | sendByte hs _ => exact echoInRange_of_ne (by simp [State.sendByte, hs])
  | sendLast _ _ => exact fun _ => Nat.zero_le _
  | echoEnd _ => exact fun ⟨_, ht⟩ => absurd ht nofun
  | sendProceed _ | sendAbort _ => exact echoInRange_of_ne nofun

/-- The channel takes no session back to Idle (R201). -/
theorem channelEdge_idle (h : HsState) : HsState.channelEdge h .idle = false := by cases h <;> rfl

/-- A device that is not idle is in a session or has ended one (R35). -/
theorem busy_or_done_of_ne_idle (h : s.hsState ≠ .idle) : s.busy = true ∨ s.done = true := by
  cases hs : s.hsState with
  | idle => exact absurd hs h
  | success | failed => simp [State.done, hs, HsState.done]
  | awaitingReady | sending | verifyingEcho | awaitingDone => simp [State.busy, hs, HsState.busy]

/-- After a move the session goes on or has ended. -/
theorem State.Moves.busy_or_done (h : s.Moves e t) : t.busy = true ∨ t.done = true := by
  refine busy_or_done_of_ne_idle fun ht => ?_
  rcases h.edge with hstay | hedge
  · have hbusy := h.busy
    rw [State.busy, ← hstay, ht] at hbusy
    cases hbusy
  · rw [ht, channelEdge_idle] at hedge
    cases hedge

/-- The events that bring a session on: reset, and every channel event but a byte that continues a line. -/
def State.BroughtOnBy (s : State) (e : Event) : Prop :=
  e = .reset ∨ (e.isChannel = true ∧ s.lineContinues e = false)

/-- No other event moves a busy session: commands are refused, and a byte of a line leaves it at its place. -/
theorem runEvent_samePlace (he : e.isLabel = true) (hb : s.busy = true) (hne : ¬s.BroughtOnBy e)
    (h : runEvent e s = .next t) : s.SamePlace t := by
  have channel (hc : e.isChannel = true) : s.SamePlace t := by
    have hl : s.lineContinues e = true := by
      by_contra hl
      exact hne (.inr ⟨hc, Bool.eq_false_iff.mpr hl⟩)
    obtain ⟨u, hu, rfl⟩ := moves_of_runEvent hc h
    obtain ⟨hhs, hidx, htxp⟩ := hu.samePlace hl
    exact ⟨hhs, hidx, htxp⟩
  cases e with
  | rxByte _ | rxEnd | txAccept => exact channel rfl
  | hostXn xn =>
    rcases hostXn_leaves h with ⟨G, o, rfl⟩ | ⟨hidle, _⟩ | ⟨hdone, _⟩
    · exact ⟨rfl, rfl, rfl⟩
    · exact absurd hb (by simp [hidle])
    · exact absurd hb (by simp [busy_of_done hdone])
  | reset => exact absurd (.inl rfl) hne
  | word _ _ | op _ _ => cases he

/-! ### The steps of a run -/

variable {ins : Nat → List Input} {r : Nat → State} {n m : Nat}

/-- What the environment presents is put behind the pending inputs, and nothing else changes. -/
theorem samePlace_presented (ins : List Input) (s : State) : s.SamePlace (s.presented ins) := ⟨rfl, rfl, rfl⟩

/-- Step `m` of the run performs an event that brings the session on. -/
def Advances (ins : Nat → List Input) (r : Nat → State) (m : Nat) : Prop :=
  ∃ e, Performs ins r m e ∧ (r m).BroughtOnBy e

/-- The state in which a performed event runs stands where the state of the run does, and runs it to the next state. -/
theorem Run.runs (hrun : Run ins r) (hp : Performs ins r m e) :
    ∃ s, (r m).SamePlace s ∧ e.isLabel = true ∧ runEvent e s = .next (r (m + 1)) := by
  obtain ⟨s, hf⟩ := hp
  have hdev := fetch_device (hrun.device m)
  rw [hf] at hdev
  exact ⟨s, (samePlace_presented _ _).trans ((fetch_fetchedFrom _).2 _ _ hf).samePlace, hdev.1,
    (step_of_event hf).symm.trans (hrun.steps m)⟩

/-- A step that does not bring a busy session on leaves it at its place. -/
theorem Run.samePlace_succ (hrun : Run ins r) (hb : (r m).busy = true) (hno : ¬Advances ins r m) :
    (r m).SamePlace (r (m + 1)) := by
  cases hf : fetch ((r m).presented (ins m)) with
  | quiet t =>
    have ht : t = r (m + 1) := by
      have hstep := hrun.steps m
      rw [step_of_quiet hf] at hstep
      cases hstep; rfl
    exact ht ▸ (samePlace_presented _ _).trans ((fetch_fetchedFrom _).1 _ hf).samePlace
  | event e _ =>
    have hp : Performs ins r m e := ⟨_, hf⟩
    obtain ⟨s, hs, he, hx⟩ := hrun.runs hp
    refine hs.trans (runEvent_samePlace he (hs.busy.trans hb) (fun hon => hno ⟨e, hp, ?_⟩) hx)
    exact hon.imp_right (And.imp_right (hs.lineContinues e ▸ ·))

/-- So does a stretch of the run that holds no such step. -/
theorem Run.samePlace_of_le (hrun : Run ins r) (hb : (r n).busy = true) (hnm : n ≤ m)
    (hno : ∀ k, n ≤ k → k < m → ¬Advances ins r k) : (r n).SamePlace (r m) := by
  induction m, hnm using Nat.le_induction with
  | base => exact .refl _
  | succ m hnm ih =>
    have hplace := ih fun k hk hkm => hno k hk (Nat.lt_succ_of_lt hkm)
    exact hplace.trans (hrun.samePlace_succ (hplace.busy.trans hb) (hno m hnm (Nat.lt_succ_self m)))

/-- A fair channel brings every busy session on: each kind of wait has its clause of `CH_FAIR` (R266). -/
theorem ChFair.exists_advances (hfair : ChFair ins r) (hrun : Run ins r) (hb : (r n).busy = true) :
    ∃ m, n ≤ m ∧ Advances ins r m := by
  have reset {m} (hp : Performs ins r m .reset) : Advances ins r m := ⟨_, hp, .inl rfl⟩
  have rxEnd {m} (hp : Performs ins r m .rxEnd) : Advances ins r m := ⟨_, hp, .inr ⟨rfl, rfl⟩⟩
  have line (hs : (r n).hsState = .awaitingReady ∨ (r n).hsState = .awaitingDone) : ∃ m, n ≤ m ∧ Advances ins r m := by
    obtain ⟨m, hnm, hp | hp | hp⟩ := hfair.lines n hs
    · exact ⟨m, hnm, reset hp⟩
    · exact ⟨m, hnm, rxEnd hp⟩
    · exact ⟨m, hnm, _, hp, .inr ⟨rfl, by simp [State.lineContinues]⟩⟩
  rcases busy_iff_reads_or_offers.mp hb with hr | hv
  · rcases rxReady_iff.mp hr with hs | hs | hecho
    · exact line (.inl hs)
    · exact line (.inr hs)
    · obtain ⟨m, hnm, hp | hp | ⟨b, hp⟩⟩ := hfair.reads n hr
      · exact ⟨m, hnm, reset hp⟩
      · exact ⟨m, hnm, rxEnd hp⟩
      · -- a byte delivered before anything else has brought the session on is a byte of the echo
        by_contra hno
        push Not at hno
        have hplace := hrun.samePlace_of_le hb hnm fun k hk _ => hno k hk
        have hline : (r m).lineContinues (.rxByte b) = false := by
          simp [State.lineContinues, hplace.hsState, hecho.1]
        exact hno m hnm ⟨_, hp, .inr ⟨rfl, hline⟩⟩
  · obtain ⟨m, hnm, hp | hp⟩ := hfair.writes n hv
    · exact ⟨m, hnm, reset hp⟩
    · exact ⟨m, hnm, _, hp, .inr ⟨rfl, rfl⟩⟩

/-- Up to the first step that brings it on, the session stays at its place. -/
theorem ChFair.exists_first_advances (hfair : ChFair ins r) (hrun : Run ins r) (hb : (r n).busy = true) :
    ∃ m, n ≤ m ∧ Advances ins r m ∧ ∀ k, n ≤ k → k ≤ m → (r n).SamePlace (r k) := by
  classical
  have hex := hfair.exists_advances hrun hb
  obtain ⟨hnm, hadv⟩ := Nat.find_spec hex
  refine ⟨Nat.find hex, hnm, hadv, fun k hk hkm => hrun.samePlace_of_le hb hk fun j hj hjk hadv' => ?_⟩
  exact Nat.find_min hex (Nat.lt_of_lt_of_le hjk hkm) ⟨hj, hadv'⟩

/-- The step that brings the session on is a reset, or a move nearer the end. -/
theorem Run.reset_or_nearer (hrun : Run ins r) (hadv : Advances ins r m) :
    Performs ins r m .reset ∨
      ((r (m + 1)).EchoInRange ∧ ((r (m + 1)).busy = true ∨ (r (m + 1)).done = true) ∧
        ((r m).EchoInRange → (r (m + 1)).distance < (r m).distance)) := by
  obtain ⟨e, hp, rfl | ⟨hc, hl⟩⟩ := hadv
  · exact .inl hp
  · obtain ⟨s, hs, -, hx⟩ := hrun.runs hp
    obtain ⟨u, hu, hnext⟩ := moves_of_runEvent hc hx
    rw [hnext, ← hs.distance]
    exact .inr ⟨hu.echoInRange, hu.busy_or_done,
      fun hrange => hu.distance_lt (hs.echoInRange hrange) ((hs.lineContinues e).trans hl)⟩

/-! ### The end of the session -/

/-- From point `n` of the run the session stays busy up to a step that ends it or is a reset. -/
def SessionEnds (ins : Nat → List Input) (r : Nat → State) (n : Nat) : Prop :=
  ∃ m, n ≤ m ∧ (∀ k, n ≤ k → k ≤ m → (r k).busy = true) ∧ (Performs ins r m .reset ∨ (r (m + 1)).done = true)

/-- A session that stays busy up to a point from which it ends, ends. -/
theorem SessionEnds.of_busy (h : SessionEnds ins r (m + 1)) (hnm : n ≤ m)
    (hb : ∀ k, n ≤ k → k ≤ m → (r k).busy = true) : SessionEnds ins r n := by
  obtain ⟨l, hml, hbl, hend⟩ := h
  refine ⟨l, by omega, fun k hk hkl => ?_, hend⟩
  rcases Nat.lt_or_ge m k with hmk | hkm
  · exact hbl k hmk hkl
  · exact hb k hk hkm

/-- A session ends if it ends from every later point to which a move takes it: `CH_FAIR` gives the first such move. -/
theorem sessionEnds_of_next (hrun : Run ins r) (hfair : ChFair ins r) (hb : (r n).busy = true)
    (hnext : ∀ m, (r m).EchoInRange → (r m).busy = true →
      ((r n).EchoInRange → (r m).distance < (r n).distance) → SessionEnds ins r m) : SessionEnds ins r n := by
  obtain ⟨m, hnm, hadv, hplace⟩ := hfair.exists_first_advances hrun hb
  have hbusy (k : Nat) (hk : n ≤ k) (hkm : k ≤ m) : (r k).busy = true := (hplace k hk hkm).busy.trans hb
  have hm := hplace m hnm (le_refl m)
  rcases hrun.reset_or_nearer hadv with hreset | ⟨hrange, hb' | hdone, hlt⟩
  · exact ⟨m, hnm, hbusy, .inl hreset⟩
  · exact (hnext (m + 1) hrange hb' fun h => hm.distance ▸ hlt (hm.echoInRange h)).of_busy hnm hbusy
  · exact ⟨m, hnm, hbusy, .inr hdone⟩

/-- With `idx` in range every move brings the end nearer, so the session ends, by induction on its distance. -/
theorem sessionEnds_of_echoInRange (hrun : Run ins r) (hfair : ChFair ins r) (d : Nat) (hd : (r n).distance = d)
    (hrange : (r n).EchoInRange) (hb : (r n).busy = true) : SessionEnds ins r n := by
  induction d using Nat.strong_induction_on generalizing n with
  | _ d ih =>
    exact sessionEnds_of_next hrun hfair hb fun m hm hbm hlt => ih _ (hd ▸ hlt hrange) rfl hm hbm

/-- Settles O60: the run may begin in a state of no invariant, but its first move leaves `idx` in range. -/
theorem fairChannelEndsEverySession : Obligations.FairChannelEndsEverySession := by
  intro ins r hrun hfair n hb
  exact sessionEnds_of_next hrun hfair hb fun _ hm hbm _ => sessionEnds_of_echoInRange hrun hfair _ rfl hm hbm

end Sys2Proof.Machine
end

section
/-! PROOFS. Reset (R280, R281): what it writes, as one record, and what it keeps. -/

namespace Sys2Proof.Machine

open Sys2Proof

/-- All that reset writes, in one record (R41, R280); what it takes from `s` is no element of R20. -/
theorem resetDevice_eq (s : State) : s.resetDevice = { State.reset with
    cfg := s.cfg, rxStream := s.rxStream, txStream := s.txStream, pending := s.pending, out := s.out } := by
  simp only [State.resetDevice, wipeSession_eq, State.enter, State.setBlk, State.reset]

/-- RESET has no condition (R280). -/
theorem exec_reset (s : State) : exec .reset s = .next (s.resetDevice.answer .silent) := rfl

/-- Settles O35: RESET has no condition, and the record that it writes is the reset state's but for the configuration,
the streams and the pending inputs. -/
theorem resetRestoresEveryElement : Obligations.ResetRestoresEveryElement := by
  intro s
  rw [exec_reset, resetDevice_eq]
  rfl

end Sys2Proof.Machine
end
